-- ==== Sys2Proof/Word.lean ====
section
/-!
DEFINITION. The word types of the machine (00_scope.md rules R5 and R7).
-/

namespace Sys2Proof

/-- A byte, 8 bits (R5). -/
abbrev Byte := BitVec 8

/-- A long, 32 bits: a cog register, an instruction word (R5, R100). -/
abbrev Long := BitVec 32

/-- A cog register address, 9 bits (R21). -/
abbrev CogAddr := BitVec 9

/-- A hub byte address, 17 bits (R60, R64). -/
abbrev HubAddr := BitVec 17

/-- The tag of a 16-byte cache window: bits 16..4 of a hub address (R26). -/
abbrev WindowTag := BitVec 13

/-- The condition field of an instruction, bits 21..18 (R101). -/
abbrev Cond := BitVec 4

/-- The number of a task, 0..3 (R24). -/
abbrev TaskId := Fin 4

end Sys2Proof
end

