-- ==== Sys2Proof/Syntax.lean ====
section
/-!
DEFINITION. The instructions: one constructor of `Instr` for each row of spec/opcode_table.json, its
operands already taken out of the word (30_encoding.md rules R101 to R109).
-/

namespace Sys2Proof

/-- The units that move between the hub and a D register (R66). A quad, the fourth unit, moves between
the hub and the QUADs. -/
inductive DataSize where
  | byte
  | word
  | long
  deriving DecidableEq, Repr, Inhabited

/-- The number of bytes of a unit, which is also SCALE (R107: "SCALE = 1 for byte, 2 for word, 4 for
long, or 16 for quad"). -/
def DataSize.bytes : DataSize → Nat
  | .byte => 1
  | .word => 2
  | .long => 4

/-- The number of bytes of a quad, SCALE of the quad instructions (R5, R107). -/
def quadScale : Nat := 16

/-- A PTR expression, the 9-bit field `SUPNNNNNN` of R107. -/
structure PtrExpr where
  /-- S: 0 (false) for PTRA, 1 (true) for PTRB. -/
  useB   : Bool
  /-- U: 1 (true) to update the pointer. -/
  update : Bool
  /-- P: 1 (true) to use the pointer itself, 0 to use pointer + INDEX*SCALE. -/
  post   : Bool
  /-- NNNNNN: INDEX, a 6-bit two's complement number. -/
  index  : BitVec 6
  deriving DecidableEq, Repr, Inhabited

/-- An operand of JMPTASK: a literal value, or the address of a register that holds it (R143, D13). -/
inductive TaskOperand where
  | lit (v : Long)
  | reg (a : CogAddr)
  deriving DecidableEq, Repr, Inhabited

/-- The instructions of one cog, one constructor for each row of the opcode table. A field `z` is Zb,
`c` is Cb, `r` is Rb (R105); `cond` is COND (R104); `d` and `src` are register addresses; `e` is a PTR
expression; `n` and `a` are literals. The last five rows have no encoding (R113): their literals are
kept as long as an assembler may write them, and each meaning takes the bits its rule names. -/
inductive Instr where
  | wrbyteDS    (cond : Cond) (d src : CogAddr)
  | wrbyteDPtr  (cond : Cond) (d : CogAddr) (e : PtrExpr)
  | rdbyteDS    (z : Bool) (cond : Cond) (d src : CogAddr)
  | rdbyteDPtr  (z : Bool) (cond : Cond) (d : CogAddr) (e : PtrExpr)
  | rdbytecDS   (z : Bool) (cond : Cond) (d src : CogAddr)
  | rdbytecDPtr (z : Bool) (cond : Cond) (d : CogAddr) (e : PtrExpr)
  | wrwordDS    (cond : Cond) (d src : CogAddr)
  | wrwordDPtr  (cond : Cond) (d : CogAddr) (e : PtrExpr)
  | rdwordDS    (z : Bool) (cond : Cond) (d src : CogAddr)
  | rdwordDPtr  (z : Bool) (cond : Cond) (d : CogAddr) (e : PtrExpr)
  | rdwordcDS   (z : Bool) (cond : Cond) (d src : CogAddr)
  | rdwordcDPtr (z : Bool) (cond : Cond) (d : CogAddr) (e : PtrExpr)
  | wrlongDS    (cond : Cond) (d src : CogAddr)
  | wrlongDPtr  (cond : Cond) (d : CogAddr) (e : PtrExpr)
  | rdlongDS    (z : Bool) (cond : Cond) (d src : CogAddr)
  | rdlongDPtr  (z : Bool) (cond : Cond) (d : CogAddr) (e : PtrExpr)
  | rdlongcDS   (z : Bool) (cond : Cond) (d src : CogAddr)
  | rdlongcDPtr (z : Bool) (cond : Cond) (d : CogAddr) (e : PtrExpr)
  | wrquadD     (cond : Cond) (d : CogAddr)
  | wrquadPtr   (cond : Cond) (e : PtrExpr)
  | rdquadD     (cond : Cond) (d : CogAddr)
  | rdquadPtr   (cond : Cond) (e : PtrExpr)
  | rdquadcD    (cond : Cond) (d : CogAddr)
  | rdquadcPtr  (cond : Cond) (e : PtrExpr)
  | getptraD    (z c r : Bool) (cond : Cond) (d : CogAddr)
  | getptrbD    (z c r : Bool) (cond : Cond) (d : CogAddr)
  | setptraD    (cond : Cond) (d : CogAddr)
  | setptraN    (cond : Cond) (n : BitVec 9)
  | setptrbD    (cond : Cond) (d : CogAddr)
  | setptrbN    (cond : Cond) (n : BitVec 9)
  | addptraD    (cond : Cond) (d : CogAddr)
  | addptraN    (cond : Cond) (n : BitVec 9)
  | addptrbD    (cond : Cond) (d : CogAddr)
  | addptrbN    (cond : Cond) (n : BitVec 9)
  | subptraD    (cond : Cond) (d : CogAddr)
  | subptraN    (cond : Cond) (n : BitVec 9)
  | subptrbD    (cond : Cond) (d : CogAddr)
  | subptrbN    (cond : Cond) (n : BitVec 9)
  | cachex      (cond : Cond)
  | gettopsD    (z : Bool) (cond : Cond) (d : CogAddr)
  | setquadD    (cond : Cond) (d : CogAddr)
  | setquadN    (cond : Cond) (n : BitVec 9)
  | settaskN    (n : Long)
  | settaskD    (d : CogAddr)
  | jmptask     (a m : TaskOperand)
  | jmpA        (a : Long)
  | notpN       (n : Long)
  deriving DecidableEq, Repr, Inhabited

/-- The five forms without an encoding, as assembled terms (R113): what an abstract word carries (D37). -/
inductive TaskTerm where
  | settaskN (n : Long)
  | settaskD (d : CogAddr)
  | jmptask  (a m : TaskOperand)
  | jmpA     (a : Long)
  | notpN    (n : Long)
  deriving DecidableEq, Repr, Inhabited

/-- The instruction an assembled term stands for. -/
def TaskTerm.toInstr : TaskTerm → Instr
  | .settaskN n  => .settaskN n
  | .settaskD d  => .settaskD d
  | .jmptask a m => .jmptask a m
  | .jmpA a      => .jmpA a
  | .notpN n     => .notpN n

/-- What one location of the cog register RAM holds: a long, or an abstract word that carries a term
without an encoding and that only a loader places (R113, D37; log 9). -/
inductive CogWord where
  | long (v : Long)
  | term (t : TaskTerm)
  deriving DecidableEq, Repr, Inhabited

end Sys2Proof
end

