-- ==== Sys2Proof/WellFormed.lean ====
section
/-!
DEFINITION. Which instructions a word can carry (30_encoding.md rule R113), and the admitted subset
(rules R104 and R105, decisions D3 to D6).
-/

namespace Sys2Proof

/-- The operands of an encoded form are typed at the widths of their fields, so the one check is that
the form has an encoding: the five forms of format TX have none (R113). -/
def Instr.hasEncoding : Instr → Bool
  | .settaskN _ | .settaskD _ | .jmptask _ _ | .jmpA _ | .notpN _ => false
  | _ => true

/-- An instruction is well formed at the binary level when a word can carry it. -/
abbrev Instr.WellFormed (i : Instr) : Prop := i.hasEncoding = true

/-- COND of an instruction; a term without an encoding has none (R114(j)). -/
def Instr.condField : Instr → Option Cond
  | .wrbyteDS c _ _ | .wrbyteDPtr c _ _ | .rdbyteDS _ c _ _ | .rdbyteDPtr _ c _ _
  | .rdbytecDS _ c _ _ | .rdbytecDPtr _ c _ _
  | .wrwordDS c _ _ | .wrwordDPtr c _ _ | .rdwordDS _ c _ _ | .rdwordDPtr _ c _ _
  | .rdwordcDS _ c _ _ | .rdwordcDPtr _ c _ _
  | .wrlongDS c _ _ | .wrlongDPtr c _ _ | .rdlongDS _ c _ _ | .rdlongDPtr _ c _ _
  | .rdlongcDS _ c _ _ | .rdlongcDPtr _ c _ _
  | .wrquadD c _ | .wrquadPtr c _ | .rdquadD c _ | .rdquadPtr c _ | .rdquadcD c _ | .rdquadcPtr c _
  | .getptraD _ _ _ c _ | .getptrbD _ _ _ c _
  | .setptraD c _ | .setptraN c _ | .setptrbD c _ | .setptrbN c _
  | .addptraD c _ | .addptraN c _ | .addptrbD c _ | .addptrbN c _
  | .subptraD c _ | .subptraN c _ | .subptrbD c _ | .subptrbN c _
  | .cachex c | .gettopsD _ c _ | .setquadD c _ | .setquadN c _ => some c
  | .settaskN _ | .settaskD _ | .jmptask _ _ | .jmpA _ | .notpN _ => none

/-- Zb is 0 where it is free (D4). -/
def Instr.zClear : Instr → Bool
  | .rdbyteDS z _ _ _ | .rdbyteDPtr z _ _ _ | .rdbytecDS z _ _ _ | .rdbytecDPtr z _ _ _
  | .rdwordDS z _ _ _ | .rdwordDPtr z _ _ _ | .rdwordcDS z _ _ _ | .rdwordcDPtr z _ _ _
  | .rdlongDS z _ _ _ | .rdlongDPtr z _ _ _ | .rdlongcDS z _ _ _ | .rdlongcDPtr z _ _ _
  | .gettopsD z _ _ | .getptraD z _ _ _ _ | .getptrbD z _ _ _ _ => !z
  | _ => true

/-- Cb = 0 and Rb = 1 on GETPTRA and GETPTRB (D5, D6). -/
def Instr.crPlain : Instr → Bool
  | .getptraD _ c r _ _ | .getptrbD _ c r _ _ => !c && r
  | _ => true

/-- The admitted subset of the spec: COND = %1111, Zb = 0, GETPTRx with Zb Cb Rb = 001 (R116, D3 to D6).
The machine runs every instruction; this predicate only says which ones rest on no general-knowledge
passage of the spec. -/
def Instr.admitted (i : Instr) : Bool :=
  (i.condField == some 0b1111#4 || i.condField == none) && i.zClear && i.crPlain

/-- COND set to `c`; a term without an encoding is left as it is. -/
def Instr.withCond (c : Cond) : Instr → Instr
  | .wrbyteDS _ d x => .wrbyteDS c d x       | .wrbyteDPtr _ d e => .wrbyteDPtr c d e
  | .rdbyteDS z _ d x => .rdbyteDS z c d x   | .rdbyteDPtr z _ d e => .rdbyteDPtr z c d e
  | .rdbytecDS z _ d x => .rdbytecDS z c d x | .rdbytecDPtr z _ d e => .rdbytecDPtr z c d e
  | .wrwordDS _ d x => .wrwordDS c d x       | .wrwordDPtr _ d e => .wrwordDPtr c d e
  | .rdwordDS z _ d x => .rdwordDS z c d x   | .rdwordDPtr z _ d e => .rdwordDPtr z c d e
  | .rdwordcDS z _ d x => .rdwordcDS z c d x | .rdwordcDPtr z _ d e => .rdwordcDPtr z c d e
  | .wrlongDS _ d x => .wrlongDS c d x       | .wrlongDPtr _ d e => .wrlongDPtr c d e
  | .rdlongDS z _ d x => .rdlongDS z c d x   | .rdlongDPtr z _ d e => .rdlongDPtr z c d e
  | .rdlongcDS z _ d x => .rdlongcDS z c d x | .rdlongcDPtr z _ d e => .rdlongcDPtr z c d e
  | .wrquadD _ d => .wrquadD c d             | .wrquadPtr _ e => .wrquadPtr c e
  | .rdquadD _ d => .rdquadD c d             | .rdquadPtr _ e => .rdquadPtr c e
  | .rdquadcD _ d => .rdquadcD c d           | .rdquadcPtr _ e => .rdquadcPtr c e
  | .getptraD z k r _ d => .getptraD z k r c d | .getptrbD z k r _ d => .getptrbD z k r c d
  | .setptraD _ d => .setptraD c d           | .setptraN _ n => .setptraN c n
  | .setptrbD _ d => .setptrbD c d           | .setptrbN _ n => .setptrbN c n
  | .addptraD _ d => .addptraD c d           | .addptraN _ n => .addptraN c n
  | .addptrbD _ d => .addptrbD c d           | .addptrbN _ n => .addptrbN c n
  | .subptraD _ d => .subptraD c d           | .subptraN _ n => .subptraN c n
  | .subptrbD _ d => .subptrbD c d           | .subptrbN _ n => .subptrbN c n
  | .cachex _ => .cachex c                   | .gettopsD z _ d => .gettopsD z c d
  | .setquadD _ d => .setquadD c d           | .setquadN _ n => .setquadN c n
  | .settaskN n => .settaskN n | .settaskD d => .settaskD d | .jmptask a m => .jmptask a m
  | .jmpA a => .jmpA a | .notpN n => .notpN n

end Sys2Proof
end

