-- ==== Sys2Proof/Decode.lean ====
section
/-!
DEFINITION. The decoder and the encoder (30_encoding.md rules R100 to R113), and the 42 encoded rows of
spec/opcode_table.json as masks and matches.
-/

namespace Sys2Proof

/-- The fields of an instruction word (R101). -/
structure Fields where
  /-- OP, bits 31..26. -/
  op   : BitVec 6
  /-- Zb, bit 25. -/
  z    : Bool
  /-- Cb, bit 24. -/
  c    : Bool
  /-- Rb, bit 23. -/
  r    : Bool
  /-- I, bit 22. -/
  i    : Bool
  /-- COND, bits 21..18. -/
  cond : Cond
  /-- The D field, bits 17..9. -/
  d    : BitVec 9
  /-- The S field, bits 8..0. -/
  s    : BitVec 9
  deriving DecidableEq, Repr

/-- The fields of a word (R101). -/
def fieldsOf (w : Long) : Fields where
  op   := w.extractLsb' 26 6
  z    := w.getLsbD 25
  c    := w.getLsbD 24
  r    := w.getLsbD 23
  i    := w.getLsbD 22
  cond := w.extractLsb' 18 4
  d    := w.extractLsb' 9 9
  s    := w.extractLsb' 0 9

/-- The word with the given fields, bit 31 first (R101, D1). -/
def Fields.toWord (f : Fields) : Long :=
  f.op ++ BitVec.ofBool f.z ++ BitVec.ofBool f.c ++ BitVec.ofBool f.r ++ BitVec.ofBool f.i
    ++ f.cond ++ f.d ++ f.s

/-- The PTR expression of a 9-bit field (R107). -/
def PtrExpr.ofField (e : BitVec 9) : PtrExpr where
  useB   := e.getLsbD 8
  update := e.getLsbD 7
  post   := e.getLsbD 6
  index  := e.extractLsb' 0 6

/-- The 9-bit field of a PTR expression (R107). -/
def PtrExpr.toField (e : PtrExpr) : BitVec 9 :=
  BitVec.ofBool e.useB ++ BitVec.ofBool e.update ++ BitVec.ofBool e.post ++ e.index

/-- Why the decoder's verdict on a word is `not_in_spec`: the kinds of words R111 lists. -/
inductive NotInSpec where
  /-- A major opcode other than 000000 to 000011. -/
  | majorOpcode
  /-- Zb Cb Rb = 100, 010 or 110 in the three sized hub opcodes. -/
  | flagBits
  /-- A function code of 000011 other than the thirteen listed. -/
  | functionCode
  /-- A listed function code with bits 25..22 other than the listed values. -/
  | operandForm
  /-- CACHEX with a non-zero D field. -/
  | cachexField
  deriving DecidableEq, Repr

/-- The decoder's verdict: an instruction, or the reason why the word is not in the spec. -/
abbrev Verdict := Except NotInSpec Instr

/-- The sized hub opcodes 000000, 000001, 000010 (R110, R106): the six forms of one size, from the bits
Zb, Cb, Rb and I. -/
def decodeSized (wr : Cond → CogAddr → CogAddr → Instr) (wrP : Cond → CogAddr → PtrExpr → Instr)
    (rd : Bool → Cond → CogAddr → CogAddr → Instr) (rdP : Bool → Cond → CogAddr → PtrExpr → Instr)
    (rdc : Bool → Cond → CogAddr → CogAddr → Instr) (rdcP : Bool → Cond → CogAddr → PtrExpr → Instr)
    (f : Fields) : Verdict :=
  match f.z, f.c, f.r, f.i with
  | false, false, false, false => .ok (wr f.cond f.d f.s)
  | false, false, false, true  => .ok (wrP f.cond f.d (PtrExpr.ofField f.s))
  | z,     false, true,  false => .ok (rd z f.cond f.d f.s)
  | z,     false, true,  true  => .ok (rdP z f.cond f.d (PtrExpr.ofField f.s))
  | z,     true,  true,  false => .ok (rdc z f.cond f.d f.s)
  | z,     true,  true,  true  => .ok (rdcP z f.cond f.d (PtrExpr.ofField f.s))
  | _,     _,     false, _     => .error .flagBits

/-- A function code with a D form (Zb Cb Rb I = 0001) and a #n form (0011): SETPTRx, ADDPTRx, SUBPTRx
and SETQUAD (R110). -/
def decodeRegOrLit (reg : Cond → CogAddr → Instr) (lit : Cond → BitVec 9 → Instr) (f : Fields) : Verdict :=
  match f.z, f.c, f.r, f.i with
  | false, false, false, true => .ok (reg f.cond f.d)
  | false, false, true,  true => .ok (lit f.cond f.d)
  | _, _, _, _ => .error .operandForm

/-- Function code $0B0, WRQUAD (R110). -/
def decodeWrquad (f : Fields) : Verdict :=
  match f.z, f.c, f.r, f.i with
  | false, false, false, false => .ok (.wrquadD f.cond f.d)
  | false, false, true,  true  => .ok (.wrquadPtr f.cond (PtrExpr.ofField f.d))
  | _, _, _, _ => .error .operandForm

/-- Function code $0B1, RDQUAD and RDQUADC (R110; bit 22 is 0 in the D forms, as printed: R106). -/
def decodeRdquad (f : Fields) : Verdict :=
  match f.z, f.c, f.r, f.i with
  | false, false, false, false => .ok (.rdquadD f.cond f.d)
  | false, false, true,  true  => .ok (.rdquadPtr f.cond (PtrExpr.ofField f.d))
  | false, true,  false, false => .ok (.rdquadcD f.cond f.d)
  | false, true,  true,  true  => .ok (.rdquadcPtr f.cond (PtrExpr.ofField f.d))
  | _, _, _, _ => .error .operandForm

/-- Function code $008, CACHEX: Zb Cb Rb I = 0001 and a zero D field (R110, R221). -/
def decodeCachex (f : Fields) : Verdict :=
  match f.z, f.c, f.r, f.i with
  | false, false, false, true => if f.d = 0#9 then .ok (.cachex f.cond) else .error .cachexField
  | _, _, _, _ => .error .operandForm

/-- Function code $011, GETTOPS: Cb Rb I = 011 (R110). -/
def decodeGettops (f : Fields) : Verdict :=
  match f.c, f.r, f.i with
  | false, true, true => .ok (.gettopsD f.z f.cond f.d)
  | _, _, _ => .error .operandForm

/-- Function codes $012 and $013, GETPTRA and GETPTRB: I = 1, and Zb, Cb, Rb free (R110). -/
def decodeGetptr (mk : Bool → Bool → Bool → Cond → CogAddr → Instr) (f : Fields) : Verdict :=
  if f.i then .ok (mk f.z f.c f.r f.cond f.d) else .error .operandForm

/-- Major opcode 000011: the thirteen function codes of the S field (R110). -/
def decodeFunction (f : Fields) : Verdict :=
  if f.s = 0b000001000#9 then decodeCachex f
  else if f.s = 0b000010001#9 then decodeGettops f
  else if f.s = 0b000010010#9 then decodeGetptr .getptraD f
  else if f.s = 0b000010011#9 then decodeGetptr .getptrbD f
  else if f.s = 0b010110000#9 then decodeWrquad f
  else if f.s = 0b010110001#9 then decodeRdquad f
  else if f.s = 0b010110010#9 then decodeRegOrLit .setptraD .setptraN f
  else if f.s = 0b010110011#9 then decodeRegOrLit .setptrbD .setptrbN f
  else if f.s = 0b010110100#9 then decodeRegOrLit .addptraD .addptraN f
  else if f.s = 0b010110101#9 then decodeRegOrLit .addptrbD .addptrbN f
  else if f.s = 0b010110110#9 then decodeRegOrLit .subptraD .subptraN f
  else if f.s = 0b010110111#9 then decodeRegOrLit .subptrbD .subptrbN f
  else if f.s = 0b011100010#9 then decodeRegOrLit .setquadD .setquadN f
  else .error .functionCode

/-- The decoding procedure of R110 on the fields of a word. -/
def decodeFields (f : Fields) : Verdict :=
  if f.op = 0b000000#6 then
    decodeSized .wrbyteDS .wrbyteDPtr .rdbyteDS .rdbyteDPtr .rdbytecDS .rdbytecDPtr f
  else if f.op = 0b000001#6 then
    decodeSized .wrwordDS .wrwordDPtr .rdwordDS .rdwordDPtr .rdwordcDS .rdwordcDPtr f
  else if f.op = 0b000010#6 then
    decodeSized .wrlongDS .wrlongDPtr .rdlongDS .rdlongDPtr .rdlongcDS .rdlongcDPtr f
  else if f.op = 0b000011#6 then decodeFunction f
  else .error .majorOpcode

/-- The decoder: total on every 32-bit word (R110, R111). -/
def decode (w : Long) : Verdict := decodeFields (fieldsOf w)

/-- The fields of a sized hub instruction (formats HS and HP, R102). -/
def sizedFields (op : BitVec 6) (z c r i : Bool) (cond : Cond) (d : CogAddr) (s : BitVec 9) : Fields :=
  ⟨op, z, c, r, i, cond, d, s⟩

/-- The fields of an instruction of major opcode 000011 (formats QD, QP, QN and QZ, R102). -/
def functionFields (code : BitVec 9) (z c r i : Bool) (cond : Cond) (d : BitVec 9) : Fields :=
  ⟨0b000011#6, z, c, r, i, cond, d, code⟩

/-- The fields of an instruction, written from the pattern rows of the spec (R163 to R174, R201 to R208,
R221 to R223); none for the five forms without an encoding (R113). -/
def encodeFields : Instr → Option Fields
  | .wrbyteDS k d x      => some (sizedFields 0b000000#6 false false false false k d x)
  | .wrbyteDPtr k d e    => some (sizedFields 0b000000#6 false false false true k d e.toField)
  | .rdbyteDS z k d x    => some (sizedFields 0b000000#6 z false true false k d x)
  | .rdbyteDPtr z k d e  => some (sizedFields 0b000000#6 z false true true k d e.toField)
  | .rdbytecDS z k d x   => some (sizedFields 0b000000#6 z true true false k d x)
  | .rdbytecDPtr z k d e => some (sizedFields 0b000000#6 z true true true k d e.toField)
  | .wrwordDS k d x      => some (sizedFields 0b000001#6 false false false false k d x)
  | .wrwordDPtr k d e    => some (sizedFields 0b000001#6 false false false true k d e.toField)
  | .rdwordDS z k d x    => some (sizedFields 0b000001#6 z false true false k d x)
  | .rdwordDPtr z k d e  => some (sizedFields 0b000001#6 z false true true k d e.toField)
  | .rdwordcDS z k d x   => some (sizedFields 0b000001#6 z true true false k d x)
  | .rdwordcDPtr z k d e => some (sizedFields 0b000001#6 z true true true k d e.toField)
  | .wrlongDS k d x      => some (sizedFields 0b000010#6 false false false false k d x)
  | .wrlongDPtr k d e    => some (sizedFields 0b000010#6 false false false true k d e.toField)
  | .rdlongDS z k d x    => some (sizedFields 0b000010#6 z false true false k d x)
  | .rdlongDPtr z k d e  => some (sizedFields 0b000010#6 z false true true k d e.toField)
  | .rdlongcDS z k d x   => some (sizedFields 0b000010#6 z true true false k d x)
  | .rdlongcDPtr z k d e => some (sizedFields 0b000010#6 z true true true k d e.toField)
  | .wrquadD k d         => some (functionFields 0b010110000#9 false false false false k d)
  | .wrquadPtr k e       => some (functionFields 0b010110000#9 false false true true k e.toField)
  | .rdquadD k d         => some (functionFields 0b010110001#9 false false false false k d)
  | .rdquadPtr k e       => some (functionFields 0b010110001#9 false false true true k e.toField)
  | .rdquadcD k d        => some (functionFields 0b010110001#9 false true false false k d)
  | .rdquadcPtr k e      => some (functionFields 0b010110001#9 false true true true k e.toField)
  | .getptraD z c r k d  => some (functionFields 0b000010010#9 z c r true k d)
  | .getptrbD z c r k d  => some (functionFields 0b000010011#9 z c r true k d)
  | .setptraD k d        => some (functionFields 0b010110010#9 false false false true k d)
  | .setptraN k n        => some (functionFields 0b010110010#9 false false true true k n)
  | .setptrbD k d        => some (functionFields 0b010110011#9 false false false true k d)
  | .setptrbN k n        => some (functionFields 0b010110011#9 false false true true k n)
  | .addptraD k d        => some (functionFields 0b010110100#9 false false false true k d)
  | .addptraN k n        => some (functionFields 0b010110100#9 false false true true k n)
  | .addptrbD k d        => some (functionFields 0b010110101#9 false false false true k d)
  | .addptrbN k n        => some (functionFields 0b010110101#9 false false true true k n)
  | .subptraD k d        => some (functionFields 0b010110110#9 false false false true k d)
  | .subptraN k n        => some (functionFields 0b010110110#9 false false true true k n)
  | .subptrbD k d        => some (functionFields 0b010110111#9 false false false true k d)
  | .subptrbN k n        => some (functionFields 0b010110111#9 false false true true k n)
  | .cachex k            => some (functionFields 0b000001000#9 false false false true k 0#9)
  | .gettopsD z k d      => some (functionFields 0b000010001#9 z false true true k d)
  | .setquadD k d        => some (functionFields 0b011100010#9 false false false true k d)
  | .setquadN k n        => some (functionFields 0b011100010#9 false false true true k n)
  | .settaskN _ | .settaskD _ | .jmptask _ _ | .jmpA _ | .notpN _ => none

/-- The encoder: the word of a well-formed instruction, none for a form without an encoding (R113). -/
def encode (i : Instr) : Option Long := (encodeFields i).map Fields.toWord

/-- One row of spec/opcode_table.json: a word is the row's instruction when its bits under `mask` are
`pattern` (the table's "match"). -/
structure OpcodeRow where
  mnemonic : String
  mask     : Long
  pattern  : Long
  deriving DecidableEq, Repr

/-- Rows of spec/opcode_table.json that have an encoding: mnemonic, mask, match. -/
def opcodeRowsA : List OpcodeRow := [
  ⟨"WRBYTE_D_S", 0xFFC00000#32, 0x00000000#32⟩,
  ⟨"WRBYTE_D_PTR", 0xFFC00000#32, 0x00400000#32⟩,
  ⟨"RDBYTE_D_S", 0xFDC00000#32, 0x00800000#32⟩,
  ⟨"RDBYTE_D_PTR", 0xFDC00000#32, 0x00C00000#32⟩,
  ⟨"RDBYTEC_D_S", 0xFDC00000#32, 0x01800000#32⟩,
  ⟨"RDBYTEC_D_PTR", 0xFDC00000#32, 0x01C00000#32⟩,
  ⟨"WRWORD_D_S", 0xFFC00000#32, 0x04000000#32⟩,
  ⟨"WRWORD_D_PTR", 0xFFC00000#32, 0x04400000#32⟩,
  ⟨"RDWORD_D_S", 0xFDC00000#32, 0x04800000#32⟩,
  ⟨"RDWORD_D_PTR", 0xFDC00000#32, 0x04C00000#32⟩,
  ⟨"RDWORDC_D_S", 0xFDC00000#32, 0x05800000#32⟩,
  ⟨"RDWORDC_D_PTR", 0xFDC00000#32, 0x05C00000#32⟩,
  ⟨"WRLONG_D_S", 0xFFC00000#32, 0x08000000#32⟩,
  ⟨"WRLONG_D_PTR", 0xFFC00000#32, 0x08400000#32⟩]

/-- Rows of spec/opcode_table.json that have an encoding: mnemonic, mask, match. -/
def opcodeRowsB : List OpcodeRow := [
  ⟨"RDLONG_D_S", 0xFDC00000#32, 0x08800000#32⟩,
  ⟨"RDLONG_D_PTR", 0xFDC00000#32, 0x08C00000#32⟩,
  ⟨"RDLONGC_D_S", 0xFDC00000#32, 0x09800000#32⟩,
  ⟨"RDLONGC_D_PTR", 0xFDC00000#32, 0x09C00000#32⟩,
  ⟨"WRQUAD_D", 0xFFC001FF#32, 0x0C0000B0#32⟩,
  ⟨"WRQUAD_PTR", 0xFFC001FF#32, 0x0CC000B0#32⟩,
  ⟨"RDQUAD_D", 0xFFC001FF#32, 0x0C0000B1#32⟩,
  ⟨"RDQUAD_PTR", 0xFFC001FF#32, 0x0CC000B1#32⟩,
  ⟨"RDQUADC_D", 0xFFC001FF#32, 0x0D0000B1#32⟩,
  ⟨"RDQUADC_PTR", 0xFFC001FF#32, 0x0DC000B1#32⟩,
  ⟨"GETPTRA_D", 0xFC4001FF#32, 0x0C400012#32⟩,
  ⟨"GETPTRB_D", 0xFC4001FF#32, 0x0C400013#32⟩,
  ⟨"SETPTRA_D", 0xFFC001FF#32, 0x0C4000B2#32⟩,
  ⟨"SETPTRA__n", 0xFFC001FF#32, 0x0CC000B2#32⟩]

/-- Rows of spec/opcode_table.json that have an encoding: mnemonic, mask, match. -/
def opcodeRowsC : List OpcodeRow := [
  ⟨"SETPTRB_D", 0xFFC001FF#32, 0x0C4000B3#32⟩,
  ⟨"SETPTRB__n", 0xFFC001FF#32, 0x0CC000B3#32⟩,
  ⟨"ADDPTRA_D", 0xFFC001FF#32, 0x0C4000B4#32⟩,
  ⟨"ADDPTRA__n", 0xFFC001FF#32, 0x0CC000B4#32⟩,
  ⟨"ADDPTRB_D", 0xFFC001FF#32, 0x0C4000B5#32⟩,
  ⟨"ADDPTRB__n", 0xFFC001FF#32, 0x0CC000B5#32⟩,
  ⟨"SUBPTRA_D", 0xFFC001FF#32, 0x0C4000B6#32⟩,
  ⟨"SUBPTRA__n", 0xFFC001FF#32, 0x0CC000B6#32⟩,
  ⟨"SUBPTRB_D", 0xFFC001FF#32, 0x0C4000B7#32⟩,
  ⟨"SUBPTRB__n", 0xFFC001FF#32, 0x0CC000B7#32⟩,
  ⟨"CACHEX", 0xFFC3FFFF#32, 0x0C400008#32⟩,
  ⟨"GETTOPS_D", 0xFDC001FF#32, 0x0CC00011#32⟩,
  ⟨"SETQUAD_D", 0xFFC001FF#32, 0x0C4000E2#32⟩,
  ⟨"SETQUAD__n", 0xFFC001FF#32, 0x0CC000E2#32⟩]

/-- The 42 encoded rows of spec/opcode_table.json. -/
def opcodeTable : List OpcodeRow := opcodeRowsA ++ opcodeRowsB ++ opcodeRowsC

/-- A word matches a row of the table (R110). -/
def OpcodeRow.accepts (row : OpcodeRow) (w : Long) : Bool := w &&& row.mask == row.pattern

/-- The instruction the decoder reads from a table word: the word is one long, stored in one cog
register, so no byte order arises (R72, R100). The bits above `nbits` are 0. -/
def decodeTableWord (nbits w : Nat) : Option Instr :=
  match decode (BitVec.ofNat 32 (w % 2 ^ nbits)) with
  | .ok i => some i
  | .error _ => none

end Sys2Proof
end

