-- ==== Sys2Proof/Config.lean ====
section
/-!
DEFINITION. What the spec leaves open (00_scope.md rule R6): the record `Params` of the parameters that
are finite data, and the uninterpreted constants, which have no value a proof could see.
-/

namespace Sys2Proof

/-- TopsOrder (R6, R222, D20): the order in which GETTOPS packs the top bytes. -/
inductive TopsOrder where
  /-- The default: the top byte of Q[k] goes to byte k of the result. -/
  | quadOrder
  /-- The other candidate: the top byte of Q[k] goes to byte 3 - k of the result. -/
  | reversed
  deriving DecidableEq, Repr, Inhabited

/-- ZRule (R6, R162, D4): what a read with Zb = 1 writes to Z. -/
inductive ZRule where
  /-- The default: Z is 1 exactly when the 32-bit result is 0. -/
  | resultIsZero
  /-- Any other rule: the uninterpreted function `Config.zRule`. -/
  | other
  deriving DecidableEq, Repr, Inhabited

/-- The instructions that can write Z (R27), the first argument of ZRule. -/
inductive ZSource where
  | rdbyte | rdword | rdlong | rdbytec | rdwordc | rdlongc | gettops | getptra | getptrb
  deriving DecidableEq, Repr, Inhabited

/-- The OPEN parameters of R6 that are finite data, and one point on which the spec's files differ. They are
configuration: no step changes them (log 4). -/
structure Params where
  /-- CondHolds for COND other than %1111 (R104, D3): bit 4*COND + 2*C + Z says whether the instruction
  executes. %1111 executes whatever this table says. -/
  condTable : BitVec 64
  /-- FlagsPerTask (D7): each task has its own C and Z. -/
  flagsPerTask : Bool
  /-- SettaskRotates (D10): the rotation at the end of a SETTASK step acts on the new value. -/
  settaskRotates : Bool
  /-- TopsOrder (D20). -/
  topsOrder : TopsOrder
  /-- ExplicitRdquadValidates (D21): the instruction RDQUAD sets the cache window. -/
  explicitRdquadValidates : Bool
  /-- NPINS - 4 (D31: NPINS is at least 4). -/
  extraPins : Nat
  /-- ExecAfterWrite (D34): `some n` when n instructions must stand between writing an ordinary register
  and fetching it; `none` for the treatment R267 recommends, a fault on every such fetch. -/
  execAfterWrite : Option Nat
  /-- ZRule (D4). -/
  zRule : ZRule
  /-- How a PTR expression with U = 0 and P = 1 finds its address: false, by R107, R112 and R161, PTRx; true,
  by the ruling D36 ("P is ignored when U = 0"), PTRx + INDEX*SCALE. No parameter of R6: the spec's own files
  give both (log 10). -/
  pIgnoredWithoutU : Bool
  deriving DecidableEq, Repr, Inhabited

/-- NPINS, the number of pins (R29). -/
def Params.npins (p : Params) : Nat := p.extraPins + 4

/-- The parameters at the values the spec calls default or recommended (R6). `condTable` is the reading
of R104: nibble k of the table is k itself, so the bit for COND = k is bit 2*C + Z of k. NPINS is 4, the
least value D31 allows. A PTR expression is as R112 and R161 say. -/
def Params.default : Params where
  condTable := 0xFEDCBA9876543210#64
  flagsPerTask := false
  settaskRotates := true
  topsOrder := .quadOrder
  explicitRdquadValidates := true
  extraPins := 0
  execAfterWrite := none
  zRule := .resultIsZero
  pIgnoredWithoutU := false

/-- ZRule when it is not the default (R162, U4): nothing is known of it. -/
opaque Config.zRule : ZSource → Long → Bool

/-- The n-th free bit: what GETPTRA or GETPTRB with Cb = 1 writes to C (R200, U5). -/
opaque Config.freeBit : Nat → Bool

/-- The n-th free long: what a register under the overlay holds after a write through it (R22, D25). -/
opaque Config.freeLong : Nat → Long

/-- The hub ROM bytes at $00020..$00E7F: fixed, and not in the source (R61). -/
opaque Config.romByte : Nat → Byte

/-- The bits of an abstract word read as data: its encoding is not in the source (R113). -/
opaque Config.termBits : TaskTerm → Long

end Sys2Proof
end

