-- ==== Sys2Proof/Machine/Memory.lean ====
section
/-!
DEFINITION. The hub memory (20_memory.md): ROM and RAM, byte order, alignment, and the reads and writes
of bytes, words, longs and quads. RAM is held as the list of its bytes that hold a known value.
-/

namespace Sys2Proof.Machine

/-- The RAM bytes that hold a known value, as (address, byte) pairs with strictly rising addresses. -/
abbrev Memory := List Host.Cell

/-- The number of hub bytes, 128K (R5). -/
def hubBytes : Nat := 0x20000

/-- The first RAM address: ROM is $00000..$00E7F (R61). -/
def romEnd : Nat := 0x00E80

/-- The first 32 ROM bytes, from the source's dump (R61). -/
def romHead : List Byte :=
  [0x50, 0x72, 0x6F, 0x70, 0x32, 0x2E, 0x30, 0x20, 0x00, 0x20, 0x7C, 0x0C, 0x03, 0xCC, 0x7C, 0x0C,
   0x45, 0xFE, 0xC1, 0x0D, 0xE3, 0xB6, 0xFC, 0x0C, 0x01, 0xC6, 0x7C, 0x0C, 0x01, 0xC6, 0x7C, 0x0D]

/-- The ROM: the 32 bytes the source prints, and bytes it does not print (R61; log 3). -/
def romByte (a : Nat) : Byte :=
  match romHead[a]? with
  | some b => b
  | none => Config.romByte a

/-- The known RAM byte at an address. An unlisted RAM address holds no known value (R33; log 2). -/
def Memory.find : Memory → Nat → Option Byte
  | [], _ => none
  | (k, v) :: m, a => if a = k then some v else Memory.find m a

/-- HUB[a] (R30): ROM below $00E80, RAM from there on; none where the byte holds no known value. -/
def Memory.byte (m : Memory) (a : Nat) : Option Byte :=
  if a < romEnd then some (romByte a) else m.find a

/-- The canonical form from address `lo` on: strictly rising addresses below the end of the hub. -/
def Memory.wfFrom (lo : Nat) : Memory → Bool
  | [] => true
  | (k, _) :: m => decide (lo ≤ k) && decide (k < hubBytes) && Memory.wfFrom (k + 1) m

/-- The canonical form of a memory: strictly rising RAM addresses. An unlisted address has no byte, so
no listed byte can equal it. -/
def Memory.wf (m : Memory) : Bool := Memory.wfFrom romEnd m

/-- HUB[a] <- v for one RAM byte. -/
def Memory.setByte : Memory → Nat → Byte → Memory
  | [], a, v => [(a, v)]
  | (k, w) :: m, a, v =>
    if a < k then (a, v) :: (k, w) :: m
    else if a = k then (a, v) :: m
    else (k, w) :: Memory.setByte m a v

/-- Successive bytes from an address on. -/
def Memory.setBytes : Memory → Nat → List Byte → Memory
  | m, _, [] => m
  | m, a, v :: vs => Memory.setBytes (m.setByte a v) (a + 1) vs

/-- base(addr, n) of R65: the address with its low log2(n) bits dropped. -/
def unitBase (n : Nat) (a : HubAddr) : Nat := a.toNat - a.toNat % n

/-- The word at an aligned address, low byte first (R62). -/
def Memory.wordAt (m : Memory) (b : Nat) : Option (BitVec 16) :=
  match m.byte b, m.byte (b + 1) with
  | some b0, some b1 => some (b1 ++ b0)
  | _, _ => none

/-- The long at an aligned address, low byte first (R62). -/
def Memory.longAt (m : Memory) (b : Nat) : Option Long :=
  match m.byte b, m.byte (b + 1), m.byte (b + 2), m.byte (b + 3) with
  | some b0, some b1, some b2, some b3 => some (b3 ++ b2 ++ b1 ++ b0)
  | _, _, _, _ => none

/-- The quad at an aligned address: long k is the one at base + 4k (R73). -/
def Memory.quadAt (m : Memory) (b : Nat) : Option (Vector Long 4) :=
  match m.longAt b, m.longAt (b + 4), m.longAt (b + 8), m.longAt (b + 12) with
  | some q0, some q1, some q2, some q3 => some #v[q0, q1, q2, q3]
  | _, _, _, _ => none

/-- MemRead for a unit that goes to a D register, zero-extended to 32 bits (R65, R162; D18). None where
a byte holds no known value. -/
def Memory.read (m : Memory) (sz : DataSize) (a : HubAddr) : Option Long :=
  match sz with
  | .byte => (m.byte (unitBase 1 a)).map (fun v => v.setWidth 32)
  | .word => (m.wordAt (unitBase 2 a)).map (fun v => v.setWidth 32)
  | .long => m.longAt (unitBase 4 a)

/-- MemRead of 16 bytes into Q[0..3] (R65, R73). -/
def Memory.readQuad (m : Memory) (a : HubAddr) : Option (Vector Long 4) :=
  m.quadAt (unitBase quadScale a)

/-- The four bytes of a long, least significant first (R62). -/
def longBytes (v : Long) : List Byte :=
  [v.extractLsb' 0 8, v.extractLsb' 8 8, v.extractLsb' 16 8, v.extractLsb' 24 8]

/-- The bytes a WRBYTE, WRWORD or WRLONG stores: the low bytes of D (R66). -/
def unitBytes (sz : DataSize) (v : Long) : List Byte := (longBytes v).take sz.bytes

/-- The sixteen bytes a WRQUAD stores: Q[0] to the lowest long (R172). -/
def quadBytes (q : Vector Long 4) : List Byte :=
  longBytes q[0] ++ longBytes q[1] ++ longBytes q[2] ++ longBytes q[3]

/-- MemWrite of the bytes of one unit of `n` bytes (R65); none where the unit lies in ROM (D27). -/
def Memory.write (m : Memory) (n : Nat) (a : HubAddr) (bs : List Byte) : Option Memory :=
  if unitBase n a < romEnd then none else some (m.setBytes (unitBase n a) bs)

/-- One hub write of another cog (R68, D39): a unit of a register, or a quad. -/
inductive HubWrite where
  | unit (sz : DataSize) (a : HubAddr) (v : Long)
  | quad (a : HubAddr) (v : Vector Long 4)
  deriving DecidableEq, Repr

/-- The effect of another cog's write; none where it lies in ROM. -/
def HubWrite.apply (e : HubWrite) (m : Memory) : Option Memory :=
  match e with
  | .unit sz a v => m.write sz.bytes a (unitBytes sz v)
  | .quad a v => m.write quadScale a (quadBytes v)

/-- The writes of other cogs that fall between two accesses of this cog, in their order (R68). -/
def applyWrites : List HubWrite → Memory → Option Memory
  | [], m => some m
  | e :: es, m =>
    match e.apply m with
    | some m' => applyWrites es m'
    | none => none

end Sys2Proof.Machine
end

