-- ==== Sys2Proof/Machine/State.lean ====
section
/-!
DEFINITION. The state of one cog and the hub (10_state.md), the reasons a step stops, and the state at
reset, which is the cog start of rule R32.
-/

namespace Sys2Proof.Machine

/-- Why a run stops with a fault. The hardware has no exception (R240): these are the spec's own way of
not inventing behaviour (R9), and each of them is safe, since it only makes claims unprovable. -/
inductive Fault where
  /-- A QUAD used as data while qds > 0: raised by an access through a D or S field to a mapped QUAD (but
  for the data a missing cached read returns to D), by GETTOPS, WRQUAD and by a cached read that hits (R266,
  D33, U13). Safe. -/
  | quadNotReady
  /-- A fetch from a mapped QUAD while qex > 0: raised by the fetch of a step (R266). Safe. -/
  | quadNotExecutable
  /-- A cached read that hits a window this cog has written since the fill: raised by RDBYTEC, RDWORDC,
  RDLONGC and RDQUADC (R70, D23). Safe. -/
  | staleCacheHit
  /-- A read of a hub RAM byte that holds no known value: raised by every hub read (R33, U9). Safe. -/
  | hubByteUnwritten
  /-- A fetch of a register, or of a QUAD, that an instruction of this run has written through its D field
  too recently: raised by the fetch of a step (R72, R267, U14). Safe. -/
  | fetchAfterWrite
  deriving DecidableEq, Repr

/-- Why a step has no meaning. Safe, all of them: nothing can be proved of a refused run (R9). -/
inductive Refusal where
  /-- An instruction without a meaning. The host's constructor: no instruction of this model answers it. Safe. -/
  | notModelled (mnemonic : String)
  /-- A word that no row of the opcode table matches: raised by the fetch of a step (R111, U2). Safe. -/
  | notInSpec (why : NotInSpec)
  /-- A hub write that touches ROM: raised by WRBYTE, WRWORD, WRLONG and WRQUAD, and by an entry of
  `others` (R65, U8). Safe. -/
  | romWrite
  /-- NOTP #n with n >= NPINS: raised by NOTP (R145, U19). Safe. -/
  | noSuchPin
  deriving DecidableEq, Repr

/-- The answer of a meaning, or of an operation a meaning is made of. -/
abbrev Result (α : Type) := Host.Outcome α Fault Refusal

/-- The flags C and Z (R27). -/
structure FlagPair where
  c : Bool
  z : Bool
  deriving DecidableEq, Repr, Inhabited

/-- The state of one cog and of the hub (R20). Fields below `others` are the model's own. -/
structure State where
  /-- R[0..511] (R21). -/
  regs : Vector CogWord 512
  /-- Q[0..3] (R22). -/
  quads : Vector Long 4
  /-- QBASE (R22). -/
  qbase : BitVec 9
  /-- PC0..PC3 (R23). -/
  pcs : Vector CogAddr 4
  /-- TASK, the task register (R24). -/
  task : BitVec 32
  /-- PTRA (R25). -/
  ptra : HubAddr
  /-- PTRB (R25). -/
  ptrb : HubAddr
  /-- CV, the cache's valid bit (R26). -/
  cv : Bool
  /-- CTAG, the cache's window (R26). -/
  ctag : WindowTag
  /-- C and Z: pair 0 for the cog, or pair t for task t, by FlagsPerTask (R27, D7). -/
  flags : Vector FlagPair 4
  /-- The push/pop RAM, which no instruction in scope reaches (R28). -/
  pushPop : Vector Long 256
  /-- OUT: bit n is the state of pin n (R29). -/
  out : Nat
  /-- The hub RAM (R30). -/
  hub : Memory
  /-- qds, the readiness of the QUADs as data (R266). -/
  qds : Nat
  /-- qex, the readiness of the QUADs for execution (R266). -/
  qex : Nat
  /-- What the other cogs write to the hub before each coming step (R68, D39; log 6). The model's own. -/
  others : List (List HubWrite)
  /-- This cog has written the hub inside the cached window since the fill (R70). The model's own. -/
  windowWritten : Bool
  /-- The step in which this run last wrote each register (R267). The model's own. -/
  writtenAt : Vector (Option Nat) 512
  /-- The step in which an instruction of this run last wrote each QUAD through a D field, none since a fill
  (R72, R267; log 8). The model's own. -/
  quadWrittenAt : Vector (Option Nat) 4
  /-- How many steps have begun (R267). The model's own. -/
  steps : Nat
  /-- How many free values have been drawn (R9). The model's own. -/
  draws : Nat
  /-- The OPEN parameters (R6, R34), which no step changes. The model's own. -/
  params : Params
  deriving DecidableEq, Repr

/-- The cog right after its start (R32), with nothing loaded. The program counters, TASK, the hidden QUADs
and the readiness counters are the spec's. Every other register holds the value log 1 names. -/
def State.reset : State where
  regs := Vector.replicate 512 (.long 0xFFFFFFFF#32)
  quads := #v[0xFFFFFFFF#32, 0xFFFFFFFF#32, 0xFFFFFFFF#32, 0xFFFFFFFF#32]
  qbase := 0x1FF#9
  pcs := #v[0x000#9, 0x001#9, 0x002#9, 0x003#9]
  task := 0x00000000#32
  ptra := 0x00400#17
  ptrb := 0x00E80#17
  cv := false
  ctag := 0x1FFF#13
  flags := #v[⟨true, true⟩, ⟨true, true⟩, ⟨true, true⟩, ⟨true, true⟩]
  pushPop := Vector.replicate 256 0xFFFFFFFF#32
  out := 15
  hub := []
  qds := 0
  qex := 0
  others := []
  windowWritten := false
  writtenAt := Vector.replicate 512 none
  quadWrittenAt := Vector.replicate 4 none
  steps := 0
  draws := 0
  params := Params.default

end Sys2Proof.Machine
end

