-- ==== Sys2Proof/Machine/Ops.lean ====
section
/-!
DEFINITION. The named operations over the state: registers through the QUAD overlay (rule R22), program
counters and the task register (R23, R24), the pointers (R25), hub accesses (R65), the read cache (R70),
pins (R29), and the parts of a step that stand around the execution of an instruction (R140, R266).
There is no operation that takes an exception: the machine has none (R240 to R245).
-/

namespace Sys2Proof.Machine

/-- Go on with the answer of an operation; a fault or a refusal ends the step. -/
def andThen {α β : Type} (o : Result α) (k : α → Result β) : Result β :=
  match o with
  | .next a => k a
  | .fault f => .fault f
  | .refused r => .refused r

/-- An operation whose value may be missing: `f` is the fault where it is. -/
def orFault {α : Type} (f : Fault) (o : Option α) : Result α :=
  match o with
  | some a => .next a
  | none => .fault f

/-! ## Tasks -/

/-- TASK[1:0], the task that owns the slot (R24, R140). -/
def State.currentTask (s : State) : TaskId := ⟨s.task.toNat % 4, Nat.mod_lt _ (by decide)⟩

/-- The program counter of the slot's task (R23). -/
def State.pc (s : State) : CogAddr := s.pcs[s.currentTask]

/-- pc[t] <- a (R23). -/
def State.setPc (t : TaskId) (a : CogAddr) (s : State) : State :=
  { s with pcs := s.pcs.set t.val a t.isLt }

/-- TASK <- v (R24). -/
def State.setTask (v : BitVec 32) (s : State) : State := { s with task := v }

/-- The rotation of the task register by one field, 2 bits (R24, R140, D9). -/
def State.rotateTask (s : State) : State := { s with task := s.task.rotateRight 2 }

/-! ## Cog registers through the overlay -/

/-- The QUADs are mapped exactly when QBASE[1:0] = 00 (R22). -/
def State.quadsMapped (s : State) : Bool := s.qbase.extractLsb' 0 2 == 0#2

/-- The cog address denotes a QUAD (R22). -/
def State.overlaid (s : State) (a : CogAddr) : Bool :=
  s.quadsMapped && a.extractLsb' 2 7 == s.qbase.extractLsb' 2 7

/-- i[1:0]: which QUAD an overlaid address denotes (R22). -/
def quadIndex (a : CogAddr) : Fin 4 := ⟨a.toNat % 4, Nat.mod_lt _ (by decide)⟩

/-- The bits of a location read as data; those of an abstract word are not in the source (log 9). -/
def wordValue : CogWord → Long
  | .long v => v
  | .term t => Config.termBits t

/-- What the cog address holds, through the overlay (R22). -/
def State.word (s : State) (a : CogAddr) : CogWord :=
  if s.overlaid a then .long s.quads[quadIndex a] else s.regs[a.toNat]'a.isLt

/-- x[a]: the register read (R22). -/
def State.x (s : State) (a : CogAddr) : Long := wordValue (s.word a)

/-- The four longs under the overlay hold unspecified values once a write has gone through it (R22, D25,
U15): each receives a free value, and counts as written by this run. -/
def State.blurShadow (s : State) : State :=
  let b := s.qbase.toNat
  { s with
    regs := (((s.regs.setIfInBounds b (.long (Config.freeLong s.draws))).setIfInBounds
      (b + 1) (.long (Config.freeLong (s.draws + 1)))).setIfInBounds
      (b + 2) (.long (Config.freeLong (s.draws + 2)))).setIfInBounds
      (b + 3) (.long (Config.freeLong (s.draws + 3)))
    writtenAt := (((s.writtenAt.setIfInBounds b (some s.steps)).setIfInBounds
      (b + 1) (some s.steps)).setIfInBounds (b + 2) (some s.steps)).setIfInBounds
      (b + 3) (some s.steps)
    draws := s.draws + 4 }

/-- Q[k] <- v, the write of a mapped QUAD through a D field (R22), and the step of the write (R72, R267). -/
def State.setQuad (k : Fin 4) (v : Long) (s : State) : State :=
  { s with
    quads := s.quads.set k.val v k.isLt
    quadWrittenAt := s.quadWrittenAt.set k.val (some s.steps) k.isLt }

/-- R[a] <- v, the raw register (R21), and the step of the write (R267). -/
def State.setReg (a : CogAddr) (v : Long) (s : State) : State :=
  { s with
    regs := s.regs.set a.toNat (.long v) a.isLt
    writtenAt := s.writtenAt.set a.toNat (some s.steps) a.isLt }

/-- x[a] <- v: the register write, through the overlay (R22). -/
def State.setX (a : CogAddr) (v : Long) (s : State) : State :=
  if s.overlaid a then s.blurShadow.setQuad (quadIndex a) v else s.setReg a v

/-- An access to x[a] through a D or S field is early when the address is a QUAD and qds > 0 (R266). -/
def State.early (s : State) (a : CogAddr) : Bool := s.overlaid a && decide (s.qds ≠ 0)

/-- Read x[a] through a D or S field (R22, R266). -/
def readX (a : CogAddr) (s : State) : Result Long :=
  if s.early a then .fault .quadNotReady else .next (s.x a)

/-- The instruction, other than a cached read, will write x[a] through its D field: an early access is a fault
(R266). -/
def claimX (a : CogAddr) (s : State) : Result State :=
  if s.early a then .fault .quadNotReady else .next s

/-! ## Pointers -/

/-- PTR[s]: PTRA for false, PTRB for true (R8, R25). -/
def State.ptr (s : State) (useB : Bool) : HubAddr := if useB then s.ptrb else s.ptra

/-- PTR[s] <- v (R25). -/
def State.setPtr (useB : Bool) (v : HubAddr) (s : State) : State :=
  if useB then { s with ptrb := v } else { s with ptra := v }

/-! ## Hub accesses and the read cache -/

/-- Bits 16..4 of a hub address, the window it lies in (R26). -/
def windowOf (a : HubAddr) : WindowTag := a.extractLsb' 4 13

/-- A cached read at `a` hits (R26, R70). -/
def State.hits (s : State) (a : HubAddr) : Bool := s.cv && s.ctag == windowOf a

/-- MemRead of a byte, word or long, zero-extended to 32 bits (R65, R162). -/
def loadUnit (sz : DataSize) (a : HubAddr) (s : State) : Result Long :=
  orFault .hubByteUnwritten (s.hub.read sz a)

/-- MemRead of a quad (R65). -/
def loadQuad (a : HubAddr) (s : State) : Result (Vector Long 4) :=
  orFault .hubByteUnwritten (s.hub.readQuad a)

/-- MemWrite (R65): a write to ROM is refused (D27), and a write by this cog into the cached window is
remembered (R70). Neither Q, CV nor CTAG changes (D23). -/
def store (n : Nat) (a : HubAddr) (bs : List Byte) (s : State) : Result State :=
  match s.hub.write n a bs with
  | none => .refused .romWrite
  | some h => .next { s with hub := h, windowWritten := s.windowWritten || s.hits a }

/-- The QUADs receive a quad; the cache window becomes what `cv` and `ctag` say; the readiness delay
starts (R70, R173, R266), which from then on decides when a QUAD can be fetched. -/
def State.loadQuads (q : Vector Long 4) (cv : Bool) (ctag : WindowTag) (s : State) : State :=
  { s with
    quads := q, cv := cv, ctag := ctag, windowWritten := false, qds := 3, qex := 5
    quadWrittenAt := Vector.replicate 4 none }

/-- CacheFill (R70). -/
def cacheFill (a : HubAddr) (s : State) : Result State :=
  andThen (loadQuad a s) fun q => .next (s.loadQuads q true (windowOf a))

/-- The access of a cached read that hits: the QUADs are used as data (R266), and the window must not
have been written by this cog since the fill (R70). -/
def cacheHit (s : State) : Result State :=
  if s.windowWritten then .fault .staleCacheHit
  else if s.qds ≠ 0 then .fault .quadNotReady
  else .next s

/-- CacheLookup (R70). -/
def cacheLookup (a : HubAddr) (s : State) : Result State :=
  if s.hits a then cacheHit s else cacheFill a s

/-- The instruction RDQUAD: Q receives the quad, and ExplicitRdquadValidates decides whether the window
follows or CV is cleared (R173, D21). -/
def explicitRdquad (a : HubAddr) (s : State) : Result State :=
  andThen (loadQuad a s) fun q =>
    .next (if s.params.explicitRdquadValidates then s.loadQuads q true (windowOf a)
      else s.loadQuads q false s.ctag)

/-- The value a cached read takes from the QUADs (R175). -/
def State.fromCache (s : State) (sz : DataSize) (a : HubAddr) : Long :=
  let q := s.quads[(⟨a.toNat / 4 % 4, Nat.mod_lt _ (by decide)⟩ : Fin 4)]
  match sz with
  | .byte => (q.extractLsb' (8 * (a.toNat % 4)) 8).setWidth 32
  | .word => (q.extractLsb' (16 * (a.toNat / 2 % 2)) 16).setWidth 32
  | .long => q

/-- CV <- 0 (R71, R221). -/
def State.invalidate (s : State) : State := { s with cv := false }

/-- QBASE <- v (R223). -/
def State.setQbase (v : BitVec 9) (s : State) : State := { s with qbase := v }

/-- The four top bytes of the QUADs, packed by TopsOrder (R222, D20). -/
def State.tops (s : State) : Long :=
  match s.params.topsOrder with
  | .quadOrder => s.quads[3].extractLsb' 24 8 ++ s.quads[2].extractLsb' 24 8
      ++ s.quads[1].extractLsb' 24 8 ++ s.quads[0].extractLsb' 24 8
  | .reversed => s.quads[0].extractLsb' 24 8 ++ s.quads[1].extractLsb' 24 8
      ++ s.quads[2].extractLsb' 24 8 ++ s.quads[3].extractLsb' 24 8

/-- The QUADs used as data by GETTOPS and WRQUAD (R266). -/
def useQuads (s : State) : Result State :=
  if s.qds ≠ 0 then .fault .quadNotReady else .next s

/-! ## Pins -/

/-- OUT[n] <- 1 - OUT[n] (R145). -/
def State.togglePin (n : Nat) (s : State) : State := { s with out := s.out ^^^ 2 ^ n }

/-! ## Around the execution of an instruction -/

/-- The start of a step: the readiness counters go down by one (R266), and the step is counted. -/
def State.tick (s : State) : State :=
  { s with qds := s.qds - 1, qex := s.qex - 1, steps := s.steps + 1 }

/-- The hub accesses of the other cogs that fall before this step (R68, D39), then `tick`. -/
def beginSlot (s : State) : Result State :=
  match s.others with
  | [] => .next s.tick
  | now :: later =>
    match applyWrites now s.hub with
    | some h => .next { s with hub := h, others := later }.tick
    | none => .refused .romWrite

/-- The step in which an instruction of this run last wrote what the cog address denotes: the QUAD where
it is mapped, the register otherwise (R22, R72, R267). -/
def State.lastWrite (s : State) (a : CogAddr) : Option Nat :=
  if s.overlaid a then s.quadWrittenAt[quadIndex a] else s.writtenAt[a.toNat]'a.isLt

/-- Too few instructions stand between the write of what `a` denotes and this step (R72, R267): what was
written in step k can be fetched in step m when m - k - 1 instructions are at least ExecAfterWrite. -/
def State.writtenTooRecently (s : State) (a : CogAddr) : Bool :=
  match s.lastWrite a, s.params.execAfterWrite with
  | none, _ => false
  | some _, none => true
  | some k, some n => decide (s.steps ≤ k + n)

/-- The fetch from cog register space, through the overlay (R22, R72, R266, R267). -/
def fetchWord (a : CogAddr) (s : State) : Result CogWord :=
  if s.overlaid a = true ∧ s.qex ≠ 0 then .fault .quadNotExecutable
  else if s.writtenTooRecently a then .fault .fetchAfterWrite
  else .next (s.word a)

/-- The instruction a location holds: the decoder's verdict on a long (R111), the term of an abstract
word (R113, D37). -/
def instrOf : CogWord → Result Instr
  | .term t => .next t.toInstr
  | .long w =>
    match decode w with
    | .ok i => .next i
    | .error why => .refused (.notInSpec why)

/-- The instruction of the slot: fetched at the program counter of the slot's task (R140). -/
def fetch (s : State) : Result Instr := andThen (fetchWord s.pc s) instrOf

/-- pc[t] <- (pc[t] + 1) mod 512, before the instruction executes (R140, D8). -/
def State.advance (s : State) : State := s.setPc s.currentTask (s.pc + 1#9)

/-- The instruction is a SETTASK (R141, R142). -/
def isSettask : Instr → Bool
  | .settaskN _ | .settaskD _ => true
  | _ => false

/-- The end of a step: TASK rotates, also after a SETTASK where SettaskRotates (R140, R141, D10). -/
def endSlot (i : Instr) (s : State) : State :=
  if isSettask i && !s.params.settaskRotates then s else s.rotateTask

end Sys2Proof.Machine
end

