-- ==== Sys2Proof/Machine/Flags.lean ====
section
/-!
DEFINITION. The condition field and the flags (rules R27, R104, R105, R162, R200): every test of a flag
and every write of one.
-/

namespace Sys2Proof.Machine

/-- Which pair of flags the slot's task uses: its own under FlagsPerTask, the cog's one pair otherwise
(R27, D7). -/
def State.flagIndex (s : State) : TaskId := if s.params.flagsPerTask then s.currentTask else 0

/-- The pair of flags the slot's task sees (R27). -/
def State.flagPair (s : State) : FlagPair := s.flags[s.flagIndex]

/-- The flags the slot's task sees become `p`. -/
def State.setFlagPair (p : FlagPair) (s : State) : State :=
  { s with flags := s.flags.set s.flagIndex.val p s.flagIndex.isLt }

/-- Z <- b. -/
def State.setZ (b : Bool) (s : State) : State := s.setFlagPair { s.flagPair with z := b }

/-- C <- b. -/
def State.setC (b : Bool) (s : State) : State := s.setFlagPair { s.flagPair with c := b }

/-- CondHolds (R104): %1111 executes; any other COND as the parameter's table says (D3, U3). -/
def condHolds (p : Params) (cond : Cond) (c z : Bool) : Bool :=
  cond == 0b1111#4 || p.condTable.getLsbD (4 * cond.toNat + 2 * c.toNat + z.toNat)

/-- The condition of an instruction in the slot (R104, R140). -/
def State.holds (s : State) (cond : Cond) : Bool := condHolds s.params cond s.flagPair.c s.flagPair.z

/-- An instruction whose condition is false has no effect other than taking its slot (R104, D15). -/
def whenHolds (cond : Cond) (s : State) (effect : State → Result State) : Result State :=
  if s.holds cond then effect s else .next s

/-- ZRule (R162, D4). -/
def zValue (p : Params) (src : ZSource) (v : Long) : Bool :=
  match p.zRule with
  | .resultIsZero => v == 0#32
  | .other => Config.zRule src v

/-- Z <- ZRule(instruction, v) where bit 25 of the instruction is 1 (R162). -/
def State.writeZ (zb : Bool) (src : ZSource) (v : Long) (s : State) : State :=
  if zb then s.setZ (zValue s.params src v) else s

/-- C <- draw where bit 24 of GETPTRA or GETPTRB is 1 (R200, D5). -/
def State.drawC (cb : Bool) (s : State) : State :=
  if cb then { s.setC (Config.freeBit s.draws) with draws := s.draws + 1 } else s

/-- The write of D that Rb = 1 asks for (R200, D6). -/
def State.writeD (rb : Bool) (d : CogAddr) (v : Long) (s : State) : State :=
  if rb then s.setX d v else s

end Sys2Proof.Machine
end

