-- ==== Sys2Proof/Machine/Operands.lean ====
section
/-!
DEFINITION. The operand forms: hub addresses from a register or from a PTR expression (rules R160, R161),
the operands of the pointer instructions (R200), and the operands of the task instructions (R109, R143).
-/

namespace Sys2Proof.Machine

/-- (PTRx + INDEX*SCALE) mod 2^17 (R161, D16). -/
def ptrSum (e : PtrExpr) (scale : Nat) (s : State) : HubAddr :=
  BitVec.ofInt 17 ((s.ptr e.useB).toNat + e.index.toInt * scale)

/-- Whether the address is PTRx itself: P = 1 (R107, R161, R112), which under the ruling D36 counts only
where U = 1 (log 10). -/
def usesPointer (e : PtrExpr) (p : Params) : Bool := e.post && (e.update || !p.pIgnoredWithoutU)

/-- PtrEA (R161): the address used. -/
def ptrAddress (e : PtrExpr) (scale : Nat) (s : State) : HubAddr :=
  if usesPointer e s.params then s.ptr e.useB else ptrSum e scale s

/-- PtrEA (R161): the pointer afterwards. -/
def ptrUpdate (e : PtrExpr) (scale : Nat) (s : State) : State :=
  if e.update then s.setPtr e.useB (ptrSum e scale s) else s

/-- Where a hub instruction finds its address (R160): a register, or a PTR expression. -/
inductive HubOperand where
  | reg (a : CogAddr)
  | ptr (e : PtrExpr)
  deriving DecidableEq, Repr

/-- The hub address of an instruction, and the state after the pointer's update (R160, R64). -/
def hubAddress (op : HubOperand) (scale : Nat) (s : State) : Result (HubAddr × State) :=
  match op with
  | .reg a => andThen (readX a s) fun v => .next (v.setWidth 17, s)
  | .ptr e => .next (ptrAddress e scale s, ptrUpdate e scale s)

/-- The operand of SETPTRx, ADDPTRx, SUBPTRx and SETQUAD (R200, R223). -/
inductive ValueOperand where
  | reg (a : CogAddr)
  | lit (n : BitVec 9)
  deriving DecidableEq, Repr

/-- val: the 32-bit value of a register, or a literal 0..511 zero-extended (R109(a), R200). -/
def operandValue (op : ValueOperand) (s : State) : Result Long :=
  match op with
  | .reg a => readX a s
  | .lit n => .next (n.setWidth 32)

/-- An operand of JMPTASK: a literal, or the value of a register (R143, D13). -/
def taskOperandValue (op : TaskOperand) (s : State) : Result Long :=
  match op with
  | .lit v => .next v
  | .reg a => readX a s

/-- The operand of SETTASK #n: the low 8 bits, replicated four times (R109(b), R141). -/
def replicateFour (n : Long) : BitVec 32 :=
  n.extractLsb' 0 8 ++ n.extractLsb' 0 8 ++ n.extractLsb' 0 8 ++ n.extractLsb' 0 8

end Sys2Proof.Machine
end

