-- ==== Sys2Proof/Machine/HubMemory.lean ====
section
/-!
DEFINITION. The hub instructions for bytes, words and longs (41_hub_memory.md rules R160 to R171, R175):
three shared operations, and one meaning for each form.
-/

namespace Sys2Proof.Machine

/-- WRBYTE, WRWORD, WRLONG: the low bytes of D go to the hub (R163, R166, R169). -/
def writeUnit (sz : DataSize) (d : CogAddr) (op : HubOperand) (s : State) : Result State :=
  andThen (readX d s) fun v =>
  andThen (hubAddress op sz.bytes s) fun p =>
  store sz.bytes p.1 (unitBytes sz v) p.2

/-- RDBYTE, RDWORD, RDLONG: the unit at the address goes to D, zero-extended, and Z by ZRule where Zb is 1
(R162, R164, R167, R170). -/
def readUnit (sz : DataSize) (src : ZSource) (zb : Bool) (d : CogAddr) (op : HubOperand) (s : State) :
    Result State :=
  andThen (claimX d s) fun s0 =>
  andThen (hubAddress op sz.bytes s0) fun p =>
  andThen (loadUnit sz p.1 p.2) fun v =>
  .next ((p.2.setX d v).writeZ zb src v)

/-- RDBYTEC, RDWORDC, RDLONGC: the lookup comes first, then the value is taken from the QUADs and goes to
D, and Z by ZRule where Zb is 1 (R162, R165, R168, R171, R175). The readiness delay stops the lookup where it
hits; the data a miss returns to D is not subject to it (R266). -/
def readCachedUnit (sz : DataSize) (src : ZSource) (zb : Bool) (d : CogAddr) (op : HubOperand) (s : State) :
    Result State :=
  andThen (hubAddress op sz.bytes s) fun p =>
  andThen (cacheLookup p.1 p.2) fun t =>
  .next ((t.setX d (t.fromCache sz p.1)).writeZ zb src (t.fromCache sz p.1))

/-- WRBYTE D,S (R163). -/
def execWrbyteDS (cond : Cond) (d src : CogAddr) (s : State) : Result State :=
  whenHolds cond s (writeUnit .byte d (.reg src))

/-- WRBYTE D,PTR (R163). -/
def execWrbyteDPtr (cond : Cond) (d : CogAddr) (e : PtrExpr) (s : State) : Result State :=
  whenHolds cond s (writeUnit .byte d (.ptr e))

/-- RDBYTE D,S (R164). -/
def execRdbyteDS (z : Bool) (cond : Cond) (d src : CogAddr) (s : State) : Result State :=
  whenHolds cond s (readUnit .byte .rdbyte z d (.reg src))

/-- RDBYTE D,PTR (R164). -/
def execRdbyteDPtr (z : Bool) (cond : Cond) (d : CogAddr) (e : PtrExpr) (s : State) : Result State :=
  whenHolds cond s (readUnit .byte .rdbyte z d (.ptr e))

/-- RDBYTEC D,S (R165). -/
def execRdbytecDS (z : Bool) (cond : Cond) (d src : CogAddr) (s : State) : Result State :=
  whenHolds cond s (readCachedUnit .byte .rdbytec z d (.reg src))

/-- RDBYTEC D,PTR (R165). -/
def execRdbytecDPtr (z : Bool) (cond : Cond) (d : CogAddr) (e : PtrExpr) (s : State) : Result State :=
  whenHolds cond s (readCachedUnit .byte .rdbytec z d (.ptr e))

/-- WRWORD D,S (R166). -/
def execWrwordDS (cond : Cond) (d src : CogAddr) (s : State) : Result State :=
  whenHolds cond s (writeUnit .word d (.reg src))

/-- WRWORD D,PTR (R166). -/
def execWrwordDPtr (cond : Cond) (d : CogAddr) (e : PtrExpr) (s : State) : Result State :=
  whenHolds cond s (writeUnit .word d (.ptr e))

/-- RDWORD D,S (R167). -/
def execRdwordDS (z : Bool) (cond : Cond) (d src : CogAddr) (s : State) : Result State :=
  whenHolds cond s (readUnit .word .rdword z d (.reg src))

/-- RDWORD D,PTR (R167). -/
def execRdwordDPtr (z : Bool) (cond : Cond) (d : CogAddr) (e : PtrExpr) (s : State) : Result State :=
  whenHolds cond s (readUnit .word .rdword z d (.ptr e))

/-- RDWORDC D,S (R168). -/
def execRdwordcDS (z : Bool) (cond : Cond) (d src : CogAddr) (s : State) : Result State :=
  whenHolds cond s (readCachedUnit .word .rdwordc z d (.reg src))

/-- RDWORDC D,PTR (R168). -/
def execRdwordcDPtr (z : Bool) (cond : Cond) (d : CogAddr) (e : PtrExpr) (s : State) : Result State :=
  whenHolds cond s (readCachedUnit .word .rdwordc z d (.ptr e))

/-- WRLONG D,S (R169). -/
def execWrlongDS (cond : Cond) (d src : CogAddr) (s : State) : Result State :=
  whenHolds cond s (writeUnit .long d (.reg src))

/-- WRLONG D,PTR (R169). -/
def execWrlongDPtr (cond : Cond) (d : CogAddr) (e : PtrExpr) (s : State) : Result State :=
  whenHolds cond s (writeUnit .long d (.ptr e))

/-- RDLONG D,S (R170). -/
def execRdlongDS (z : Bool) (cond : Cond) (d src : CogAddr) (s : State) : Result State :=
  whenHolds cond s (readUnit .long .rdlong z d (.reg src))

/-- RDLONG D,PTR (R170). -/
def execRdlongDPtr (z : Bool) (cond : Cond) (d : CogAddr) (e : PtrExpr) (s : State) : Result State :=
  whenHolds cond s (readUnit .long .rdlong z d (.ptr e))

/-- RDLONGC D,S (R171). -/
def execRdlongcDS (z : Bool) (cond : Cond) (d src : CogAddr) (s : State) : Result State :=
  whenHolds cond s (readCachedUnit .long .rdlongc z d (.reg src))

/-- RDLONGC D,PTR (R171). -/
def execRdlongcDPtr (z : Bool) (cond : Cond) (d : CogAddr) (e : PtrExpr) (s : State) : Result State :=
  whenHolds cond s (readCachedUnit .long .rdlongc z d (.ptr e))

end Sys2Proof.Machine
end

