-- ==== Sys2Proof/Machine/Pointer.lean ====
section
/-!
DEFINITION. The pointer instructions (42_ptr.md rules R200 to R208). All pointer arithmetic is modulo 2^17.
-/

namespace Sys2Proof.Machine

/-- GETPTRx: the pointer, zero-extended, goes to D where Rb is 1, Z by ZRule where Zb is 1, and a free bit
to C where Cb is 1 (R200, R201, R202). -/
def getPtr (useB : Bool) (src : ZSource) (z c r : Bool) (d : CogAddr) (s : State) : Result State :=
  andThen (if r then claimX d s else .next s) fun s0 =>
  .next (((s0.writeD r d ((s0.ptr useB).setWidth 32)).writeZ z src ((s0.ptr useB).setWidth 32)).drawC c)

/-- SETPTRx: bits 16..0 of the operand (R203, R204). -/
def setPointer (useB : Bool) (op : ValueOperand) (s : State) : Result State :=
  andThen (operandValue op s) fun v => .next (s.setPtr useB (v.setWidth 17))

/-- ADDPTRx: the sum modulo 2^17 (R205, R206). -/
def addPointer (useB : Bool) (op : ValueOperand) (s : State) : Result State :=
  andThen (operandValue op s) fun v => .next (s.setPtr useB (s.ptr useB + v.setWidth 17))

/-- SUBPTRx: the difference modulo 2^17 (R207, R208). -/
def subPointer (useB : Bool) (op : ValueOperand) (s : State) : Result State :=
  andThen (operandValue op s) fun v => .next (s.setPtr useB (s.ptr useB - v.setWidth 17))

/-- GETPTRA D (R201). -/
def execGetptraD (z c r : Bool) (cond : Cond) (d : CogAddr) (s : State) : Result State :=
  whenHolds cond s (getPtr false .getptra z c r d)

/-- GETPTRB D (R202). -/
def execGetptrbD (z c r : Bool) (cond : Cond) (d : CogAddr) (s : State) : Result State :=
  whenHolds cond s (getPtr true .getptrb z c r d)

/-- SETPTRA D (R203). -/
def execSetptraD (cond : Cond) (d : CogAddr) (s : State) : Result State :=
  whenHolds cond s (setPointer false (.reg d))

/-- SETPTRA #n (R203). -/
def execSetptraN (cond : Cond) (n : BitVec 9) (s : State) : Result State :=
  whenHolds cond s (setPointer false (.lit n))

/-- SETPTRB D (R204). -/
def execSetptrbD (cond : Cond) (d : CogAddr) (s : State) : Result State :=
  whenHolds cond s (setPointer true (.reg d))

/-- SETPTRB #n (R204). -/
def execSetptrbN (cond : Cond) (n : BitVec 9) (s : State) : Result State :=
  whenHolds cond s (setPointer true (.lit n))

/-- ADDPTRA D (R205). -/
def execAddptraD (cond : Cond) (d : CogAddr) (s : State) : Result State :=
  whenHolds cond s (addPointer false (.reg d))

/-- ADDPTRA #n (R205). -/
def execAddptraN (cond : Cond) (n : BitVec 9) (s : State) : Result State :=
  whenHolds cond s (addPointer false (.lit n))

/-- ADDPTRB D (R206). -/
def execAddptrbD (cond : Cond) (d : CogAddr) (s : State) : Result State :=
  whenHolds cond s (addPointer true (.reg d))

/-- ADDPTRB #n (R206). -/
def execAddptrbN (cond : Cond) (n : BitVec 9) (s : State) : Result State :=
  whenHolds cond s (addPointer true (.lit n))

/-- SUBPTRA D (R207). -/
def execSubptraD (cond : Cond) (d : CogAddr) (s : State) : Result State :=
  whenHolds cond s (subPointer false (.reg d))

/-- SUBPTRA #n (R207). -/
def execSubptraN (cond : Cond) (n : BitVec 9) (s : State) : Result State :=
  whenHolds cond s (subPointer false (.lit n))

/-- SUBPTRB D (R208). -/
def execSubptrbD (cond : Cond) (d : CogAddr) (s : State) : Result State :=
  whenHolds cond s (subPointer true (.reg d))

/-- SUBPTRB #n (R208). -/
def execSubptrbN (cond : Cond) (n : BitVec 9) (s : State) : Result State :=
  whenHolds cond s (subPointer true (.lit n))

end Sys2Proof.Machine
end

