-- ==== Sys2Proof/Machine/Quad.lean ====
section
/-!
DEFINITION. The QUAD-related instructions CACHEX, GETTOPS and SETQUAD (43_quad.md rules R221 to R223).
-/

namespace Sys2Proof.Machine

/-- GETTOPS: the top bytes of the QUADs go to D, and Z by ZRule where Zb is 1. The QUADs are used as data
(R222, R266). -/
def getTops (z : Bool) (d : CogAddr) (s : State) : Result State :=
  andThen (useQuads s) fun s0 =>
  .next ((s0.setX d s0.tops).writeZ z .gettops s0.tops)

/-- SETQUAD: bits 8..0 of the operand, read through the overlay as it stood before (R223). -/
def setQuadBase (op : ValueOperand) (s : State) : Result State :=
  andThen (operandValue op s) fun v => .next (s.setQbase (v.setWidth 9))

/-- CACHEX (R221). -/
def execCachex (cond : Cond) (s : State) : Result State :=
  whenHolds cond s fun s0 => .next s0.invalidate

/-- GETTOPS D (R222). -/
def execGettopsD (z : Bool) (cond : Cond) (d : CogAddr) (s : State) : Result State :=
  whenHolds cond s (getTops z d)

/-- SETQUAD D (R223). -/
def execSetquadD (cond : Cond) (d : CogAddr) (s : State) : Result State :=
  whenHolds cond s (setQuadBase (.reg d))

/-- SETQUAD #n (R223). -/
def execSetquadN (cond : Cond) (n : BitVec 9) (s : State) : Result State :=
  whenHolds cond s (setQuadBase (.lit n))

end Sys2Proof.Machine
end

