-- ==== Sys2Proof/Machine/QuadTransfer.lean ====
section
/-!
DEFINITION. The quad transfers WRQUAD, RDQUAD and RDQUADC (41_hub_memory.md rules R172 to R174).
-/

namespace Sys2Proof.Machine

/-- WRQUAD: the QUADs, used as data, go to the hub, Q[0] to the lowest long (R172, R266). -/
def writeQuad (op : HubOperand) (s : State) : Result State :=
  andThen (useQuads s) fun s0 =>
  andThen (hubAddress op quadScale s0) fun p =>
  store quadScale p.1 (quadBytes s.quads) p.2

/-- RDQUAD: the address is read before the QUADs change (R173). -/
def readQuads (op : HubOperand) (s : State) : Result State :=
  andThen (hubAddress op quadScale s) fun p => explicitRdquad p.1 p.2

/-- RDQUADC: the lookup, and nothing else (R174). -/
def readQuadsCached (op : HubOperand) (s : State) : Result State :=
  andThen (hubAddress op quadScale s) fun p => cacheLookup p.1 p.2

/-- WRQUAD D (R172). -/
def execWrquadD (cond : Cond) (d : CogAddr) (s : State) : Result State :=
  whenHolds cond s (writeQuad (.reg d))

/-- WRQUAD PTR (R172). -/
def execWrquadPtr (cond : Cond) (e : PtrExpr) (s : State) : Result State :=
  whenHolds cond s (writeQuad (.ptr e))

/-- RDQUAD D (R173). -/
def execRdquadD (cond : Cond) (d : CogAddr) (s : State) : Result State :=
  whenHolds cond s (readQuads (.reg d))

/-- RDQUAD PTR (R173). -/
def execRdquadPtr (cond : Cond) (e : PtrExpr) (s : State) : Result State :=
  whenHolds cond s (readQuads (.ptr e))

/-- RDQUADC D (R174). -/
def execRdquadcD (cond : Cond) (d : CogAddr) (s : State) : Result State :=
  whenHolds cond s (readQuadsCached (.reg d))

/-- RDQUADC PTR (R174). -/
def execRdquadcPtr (cond : Cond) (e : PtrExpr) (s : State) : Result State :=
  whenHolds cond s (readQuadsCached (.ptr e))

end Sys2Proof.Machine
end

