-- ==== Sys2Proof/Machine/Task.lean ====
section
/-!
DEFINITION. The task instructions SETTASK and JMPTASK, and JMP and NOTP of the example (40_task.md rules
R141 to R145). They have no encoding, and no condition (R113, R114(j)).
-/

namespace Sys2Proof.Machine

/-- The program counters after JMPTASK: PCk takes the address where bit k of the mask is 1 (R143). -/
def maskedPcs (pcs : Vector CogAddr 4) (m : BitVec 4) (a : CogAddr) : Vector CogAddr 4 :=
  #v[if m.getLsbD 0 then a else pcs[0], if m.getLsbD 1 then a else pcs[1],
     if m.getLsbD 2 then a else pcs[2], if m.getLsbD 3 then a else pcs[3]]

/-- SETTASK #n (R141). The rotation stands at the end of the step (`endSlot`). -/
def execSettaskN (n : Long) (s : State) : Result State := .next (s.setTask (replicateFour n))

/-- SETTASK D (R142). The rotation stands at the end of the step (`endSlot`). -/
def execSettaskD (d : CogAddr) (s : State) : Result State :=
  andThen (readX d s) fun v => .next (s.setTask v)

/-- JMPTASK (R143): address bits above 8 and mask bits above 3 are ignored. -/
def execJmptask (a m : TaskOperand) (s : State) : Result State :=
  andThen (taskOperandValue a s) fun va =>
  andThen (taskOperandValue m s) fun vm =>
  .next { s with pcs := maskedPcs s.pcs (vm.setWidth 4) (va.setWidth 9) }

/-- JMP #a (R144): the executing task's program counter. -/
def execJmpA (a : Long) (s : State) : Result State := .next (s.setPc s.currentTask (a.setWidth 9))

/-- NOTP #n (R145): a pin outside NPINS is refused. -/
def execNotpN (n : Long) (s : State) : Result State :=
  if n.toNat < s.params.npins then .next (s.togglePin n.toNat) else .refused .noSuchPin

end Sys2Proof.Machine
end

