-- ==== Sys2Proof/Machine/Dispatch.lean ====
section
/-!
DEFINITION. What each instruction does: one arm per constructor of `Instr`, in the order of
spec/opcode_table.json, each the direct call of a meaning.
-/

namespace Sys2Proof.Machine

def exec (i : Instr) (s : State) : Host.Outcome State Fault Refusal :=
  match i with
  | .wrbyteDS cond d src => Sys2Proof.Machine.execWrbyteDS cond d src s
  | .wrbyteDPtr cond d e => Sys2Proof.Machine.execWrbyteDPtr cond d e s
  | .rdbyteDS z cond d src => Sys2Proof.Machine.execRdbyteDS z cond d src s
  | .rdbyteDPtr z cond d e => Sys2Proof.Machine.execRdbyteDPtr z cond d e s
  | .rdbytecDS z cond d src => Sys2Proof.Machine.execRdbytecDS z cond d src s
  | .rdbytecDPtr z cond d e => Sys2Proof.Machine.execRdbytecDPtr z cond d e s
  | .wrwordDS cond d src => Sys2Proof.Machine.execWrwordDS cond d src s
  | .wrwordDPtr cond d e => Sys2Proof.Machine.execWrwordDPtr cond d e s
  | .rdwordDS z cond d src => Sys2Proof.Machine.execRdwordDS z cond d src s
  | .rdwordDPtr z cond d e => Sys2Proof.Machine.execRdwordDPtr z cond d e s
  | .rdwordcDS z cond d src => Sys2Proof.Machine.execRdwordcDS z cond d src s
  | .rdwordcDPtr z cond d e => Sys2Proof.Machine.execRdwordcDPtr z cond d e s
  | .wrlongDS cond d src => Sys2Proof.Machine.execWrlongDS cond d src s
  | .wrlongDPtr cond d e => Sys2Proof.Machine.execWrlongDPtr cond d e s
  | .rdlongDS z cond d src => Sys2Proof.Machine.execRdlongDS z cond d src s
  | .rdlongDPtr z cond d e => Sys2Proof.Machine.execRdlongDPtr z cond d e s
  | .rdlongcDS z cond d src => Sys2Proof.Machine.execRdlongcDS z cond d src s
  | .rdlongcDPtr z cond d e => Sys2Proof.Machine.execRdlongcDPtr z cond d e s
  | .wrquadD cond d => Sys2Proof.Machine.execWrquadD cond d s
  | .wrquadPtr cond e => Sys2Proof.Machine.execWrquadPtr cond e s
  | .rdquadD cond d => Sys2Proof.Machine.execRdquadD cond d s
  | .rdquadPtr cond e => Sys2Proof.Machine.execRdquadPtr cond e s
  | .rdquadcD cond d => Sys2Proof.Machine.execRdquadcD cond d s
  | .rdquadcPtr cond e => Sys2Proof.Machine.execRdquadcPtr cond e s
  | .getptraD z c r cond d => Sys2Proof.Machine.execGetptraD z c r cond d s
  | .getptrbD z c r cond d => Sys2Proof.Machine.execGetptrbD z c r cond d s
  | .setptraD cond d => Sys2Proof.Machine.execSetptraD cond d s
  | .setptraN cond n => Sys2Proof.Machine.execSetptraN cond n s
  | .setptrbD cond d => Sys2Proof.Machine.execSetptrbD cond d s
  | .setptrbN cond n => Sys2Proof.Machine.execSetptrbN cond n s
  | .addptraD cond d => Sys2Proof.Machine.execAddptraD cond d s
  | .addptraN cond n => Sys2Proof.Machine.execAddptraN cond n s
  | .addptrbD cond d => Sys2Proof.Machine.execAddptrbD cond d s
  | .addptrbN cond n => Sys2Proof.Machine.execAddptrbN cond n s
  | .subptraD cond d => Sys2Proof.Machine.execSubptraD cond d s
  | .subptraN cond n => Sys2Proof.Machine.execSubptraN cond n s
  | .subptrbD cond d => Sys2Proof.Machine.execSubptrbD cond d s
  | .subptrbN cond n => Sys2Proof.Machine.execSubptrbN cond n s
  | .cachex cond => Sys2Proof.Machine.execCachex cond s
  | .gettopsD z cond d => Sys2Proof.Machine.execGettopsD z cond d s
  | .setquadD cond d => Sys2Proof.Machine.execSetquadD cond d s
  | .setquadN cond n => Sys2Proof.Machine.execSetquadN cond n s
  | .settaskN n => Sys2Proof.Machine.execSettaskN n s
  | .settaskD d => Sys2Proof.Machine.execSettaskD d s
  | .jmptask a m => Sys2Proof.Machine.execJmptask a m s
  | .jmpA a => Sys2Proof.Machine.execJmpA a s
  | .notpN n => Sys2Proof.Machine.execNotpN n s

end Sys2Proof.Machine
end

