-- ==== Sys2Proof/Machine/Step.lean ====
section
/-!
DEFINITION. One step of the cog (40_task.md rule R140).
-/

namespace Sys2Proof.Machine

/-- CogStep (R140): the accesses of the other cogs that come first (R68), the fetch at the program counter
of the slot's task, the advance of that program counter, the instruction, the rotation of TASK. -/
def step (s : State) : Host.Outcome State Fault Refusal :=
  andThen (beginSlot s) fun s1 =>
  andThen (fetch s1) fun i =>
  andThen (exec i s1.advance) fun t =>
  .next (endSlot i t)

/-- The word `w` stored where the next step fetches: the location at the program counter of the slot's
task, through the overlay (R22, R72), fetchable in that step (R266, R267). The word is one long in one cog
register; the bits above `nbits` are 0 (R100). -/
def State.withFetchWord (s : State) (nbits w : Nat) : State :=
  let v : Long := BitVec.ofNat 32 (w % 2 ^ nbits)
  if s.overlaid s.pc then { s with
    quads := s.quads.set (quadIndex s.pc).val v (quadIndex s.pc).isLt
    quadWrittenAt := s.quadWrittenAt.set (quadIndex s.pc).val none (quadIndex s.pc).isLt
    qex := 0 }
  else { s with
    regs := s.regs.set s.pc.toNat (.long v) s.pc.isLt
    writtenAt := s.writtenAt.set s.pc.toNat none s.pc.isLt }

end Sys2Proof.Machine
end

