-- ==== Sys2Proof/Machine/Launch.lean ====
section
/-!
DEFINITION. The start of a cog (rules R32, R33, R261): the launch data as a parameter a claim can quantify
over, and the state it gives.
-/

namespace Sys2Proof.Machine

/-- What the launcher and the power-on state give a cog (R32, R264(a)). -/
structure Launch where
  /-- The 17 bits of data of the launching cog, which arrive in PTRA. -/
  data : HubAddr
  /-- Bits 16..2 of the hub long address the code was loaded from, which arrives in PTRB. -/
  codeLong : BitVec 15
  /-- LoadLongs, how many longs were loaded from there (D30). -/
  loadLongs : Nat
  /-- The hub as it stood when the cog was loaded. -/
  hubAtLoad : Memory
  /-- The abstract words the loader places (D37). -/
  placed : List (CogAddr × TaskTerm)
  /-- What a register holds that nothing was loaded into (R33). -/
  regs : Vector Long 512
  /-- Q[0..3], QBASE, CV, CTAG, the flags, the push/pop RAM, OUT and the hub RAM at the start (R32, R33). -/
  quads : Vector Long 4
  qbase : BitVec 9
  cv : Bool
  ctag : WindowTag
  flags : Vector FlagPair 4
  pushPop : Vector Long 256
  out : Nat
  hub : Memory
  /-- What the other cogs will write (R68). -/
  others : List (List HubWrite)
  params : Params
  deriving DecidableEq, Repr

/-- PTRB of the launch: a long address, bits 1..0 are 0 (R32). -/
def Launch.codeAddr (l : Launch) : HubAddr := l.codeLong ++ 0#2

/-- What R32 fixes of a launch: the QUADs are hidden, and the memories and the pins are as R29 and R30 say. -/
def Launch.wf (l : Launch) : Bool :=
  l.qbase.extractLsb' 0 2 != 0#2 && l.hub.wf && l.hubAtLoad.wf && decide (l.out < 2 ^ l.params.npins)

/-- The abstract word placed at a register, if there is one. -/
def Launch.termAt (l : Launch) (a : CogAddr) : Option TaskTerm := (l.placed.find? (fun p => p.1 == a)).map Prod.snd

/-- The register RAM at the start (R32): an abstract word where the loader placed one; the long of the
code image below LoadLongs; otherwise, and where the image has no known value, what the launch says. -/
def Launch.register (l : Launch) (i : Fin 512) : CogWord :=
  match l.termAt (BitVec.ofFin i) with
  | some t => .term t
  | none =>
    if i.val < l.loadLongs then
      match l.hubAtLoad.longAt (unitBase 4 (l.codeAddr + BitVec.ofNat 17 (4 * i.val))) with
      | some v => .long v
      | none => .long l.regs[i]
    else .long l.regs[i]

/-- The cog at its start (R32, R261). -/
def State.launch (l : Launch) : State where
  regs := Vector.ofFn l.register
  quads := l.quads
  qbase := l.qbase
  pcs := #v[0x000#9, 0x001#9, 0x002#9, 0x003#9]
  task := 0x00000000#32
  ptra := l.data
  ptrb := l.codeAddr
  cv := l.cv
  ctag := l.ctag
  flags := l.flags
  pushPop := l.pushPop
  out := l.out
  hub := l.hub
  qds := 0
  qex := 0
  others := l.others
  windowWritten := false
  writtenAt := Vector.replicate 512 none
  quadWrittenAt := Vector.replicate 4 none
  steps := 0
  draws := 0
  params := l.params

/-- The launch of State.reset: nothing loaded, and the values log 1 names. -/
def Launch.ofReset : Launch where
  data := 0x00400#17
  codeLong := 0x003A0#15
  loadLongs := 0
  hubAtLoad := []
  placed := []
  regs := Vector.replicate 512 0xFFFFFFFF#32
  quads := State.reset.quads
  qbase := 0x1FF#9
  cv := false
  ctag := 0x1FFF#13
  flags := State.reset.flags
  pushPop := Vector.replicate 256 0xFFFFFFFF#32
  out := 15
  hub := []
  others := []
  params := Params.default

end Sys2Proof.Machine
end

