-- ==== Sys2Proof/Machine/Timing.lean ====
section
/-!
DEFINITION. The clock counts the spec gives (70_reset_and_hazards.md rule R270). They are timing only: no
step reads them.
-/

namespace Sys2Proof.Machine

/-- The least and the greatest number of clocks of an instruction (R270); `cached` says that a cached read
hits. The source gives none for SETTASK, JMPTASK, JMP and NOTP. -/
def clockBounds (cached : Bool) : Instr → Option (Nat × Nat)
  | .wrbyteDS _ _ _ | .wrbyteDPtr _ _ _ | .wrwordDS _ _ _ | .wrwordDPtr _ _ _
  | .wrlongDS _ _ _ | .wrlongDPtr _ _ _ | .wrquadD _ _ | .wrquadPtr _ _
  | .rdquadD _ _ | .rdquadPtr _ _ => some (1, 8)
  | .rdbyteDS _ _ _ _ | .rdbyteDPtr _ _ _ _ | .rdwordDS _ _ _ _ | .rdwordDPtr _ _ _ _
  | .rdlongDS _ _ _ _ | .rdlongDPtr _ _ _ _ => some (3, 11)
  | .rdbytecDS _ _ _ _ | .rdbytecDPtr _ _ _ _ | .rdwordcDS _ _ _ _ | .rdwordcDPtr _ _ _ _
  | .rdlongcDS _ _ _ _ | .rdlongcDPtr _ _ _ _ => some (if cached then (1, 1) else (3, 11))
  | .rdquadcD _ _ | .rdquadcPtr _ _ => some (if cached then (1, 1) else (1, 8))
  | .getptraD _ _ _ _ _ | .getptrbD _ _ _ _ _
  | .setptraD _ _ | .setptraN _ _ | .setptrbD _ _ | .setptrbN _ _
  | .addptraD _ _ | .addptraN _ _ | .addptrbD _ _ | .addptrbN _ _
  | .subptraD _ _ | .subptraN _ _ | .subptrbD _ _ | .subptrbN _ _
  | .cachex _ | .gettopsD _ _ _ | .setquadD _ _ | .setquadN _ _ => some (1, 1)
  | .settaskN _ | .settaskD _ | .jmptask _ _ | .jmpA _ | .notpN _ => none

end Sys2Proof.Machine
end

