-- ==== Sys2Proof/Safety.lean ====
section
/-!
DEFINITION. What claims speak of: runs without a fault or a refusal, the invariant of the machine, the
coherence of the read cache, the instruction a step runs, the classes of instructions that rules name, and
what a register write, a result and a store leave.
-/

namespace Sys2Proof.Machine

/-- `k` steps from `s` end in a next state: none of them faults or is refused (R9, R263). -/
def State.RunsFor (k : Nat) (s : State) : Prop := ∃ t, Host.Core.run Sys2Proof.core k s = .next t

/-- What every reachable state satisfies: the hub RAM keeps its canonical form, the readiness counters keep
their ranges (R266: 3 and 5 at a fill, then down to 0), OUT has NPINS bits (R29), and no register and
no QUAD was written in a step that has not begun (R267). -/
structure State.Inv (s : State) : Prop where
  hub_wf : s.hub.wf = true
  qds_le : s.qds ≤ 3
  qex_le : s.qex ≤ 5
  qds_le_qex : s.qds ≤ s.qex
  out_lt : s.out < 2 ^ s.params.npins
  written_le : ∀ (i : Fin 512) (k : Nat), s.writtenAt[i] = some k → k ≤ s.steps
  quad_written_le : ∀ (i : Fin 4) (k : Nat), s.quadWrittenAt[i] = some k → k ≤ s.steps

/-- The cached window is coherent: where the cache is valid and this cog has not written its window since
the fill, the QUADs hold what the hub holds there (R70). -/
def State.CacheCoherent (s : State) : Prop :=
  s.cv = true → s.windowWritten = false → s.hub.quadAt (s.ctag.toNat * 16) = some s.quads

/-- The instruction the next step of `s` runs, if its fetch succeeds (R140). -/
def State.nextInstr (s : State) : Option Instr :=
  match andThen (beginSlot s) fetch with
  | .next i => some i
  | _ => none

/-- None of the next `k` steps of `s` runs a SETTASK (R146(a)). -/
def State.NoSettaskFor : Nat → State → Prop
  | 0, _ => True
  | k + 1, s => (∀ i, s.nextInstr = some i → isSettask i = false) ∧
      ∀ t, step s = .next t → State.NoSettaskFor k t

/-! ## Classes of instructions -/

/-- COND, PTR expression and SCALE of an instruction with a PTR operand. -/
def ptrForm : Instr → Option (Cond × PtrExpr × Nat)
  | .wrbyteDPtr k _ e | .rdbyteDPtr _ k _ e | .rdbytecDPtr _ k _ e => some (k, e, 1)
  | .wrwordDPtr k _ e | .rdwordDPtr _ k _ e | .rdwordcDPtr _ k _ e => some (k, e, 2)
  | .wrlongDPtr k _ e | .rdlongDPtr _ k _ e | .rdlongcDPtr _ k _ e => some (k, e, 4)
  | .wrquadPtr k e | .rdquadPtr k e | .rdquadcPtr k e => some (k, e, 16)
  | _ => none

/-- The instructions that can fill the QUADs from the hub. -/
def canFill : Instr → Bool
  | .rdbytecDS _ _ _ _ | .rdbytecDPtr _ _ _ _ | .rdwordcDS _ _ _ _ | .rdwordcDPtr _ _ _ _
  | .rdlongcDS _ _ _ _ | .rdlongcDPtr _ _ _ _
  | .rdquadD _ _ | .rdquadPtr _ _ | .rdquadcD _ _ | .rdquadcPtr _ _ => true
  | _ => false

/-- The instructions that write the hub. -/
def writesHub : Instr → Bool
  | .wrbyteDS _ _ _ | .wrbyteDPtr _ _ _ | .wrwordDS _ _ _ | .wrwordDPtr _ _ _
  | .wrlongDS _ _ _ | .wrlongDPtr _ _ _ | .wrquadD _ _ | .wrquadPtr _ _ => true
  | _ => false

/-- The instructions with Zb = 1 among those that can write Z (R27). -/
def zBit : Instr → Bool
  | .rdbyteDS z _ _ _ | .rdbyteDPtr z _ _ _ | .rdbytecDS z _ _ _ | .rdbytecDPtr z _ _ _
  | .rdwordDS z _ _ _ | .rdwordDPtr z _ _ _ | .rdwordcDS z _ _ _ | .rdwordcDPtr z _ _ _
  | .rdlongDS z _ _ _ | .rdlongDPtr z _ _ _ | .rdlongcDS z _ _ _ | .rdlongcDPtr z _ _ _
  | .gettopsD z _ _ | .getptraD z _ _ _ _ | .getptrbD z _ _ _ _ => z
  | _ => false

/-- GETPTRA and GETPTRB with Cb = 1 (R27). -/
def cBit : Instr → Bool
  | .getptraD _ c _ _ _ | .getptrbD _ c _ _ _ => c
  | _ => false

/-- The pointer a SETPTRx, ADDPTRx or SUBPTRx writes (true for PTRB). -/
def pointerWritten : Instr → Option Bool
  | .setptraD _ _ | .setptraN _ _ | .addptraD _ _ | .addptraN _ _ | .subptraD _ _ | .subptraN _ _ => some false
  | .setptrbD _ _ | .setptrbN _ _ | .addptrbD _ _ | .addptrbN _ _ | .subptrbD _ _ | .subptrbN _ _ => some true
  | _ => none

/-- The instructions that use the QUADs as data without a register address: GETTOPS and WRQUAD (R266). -/
def takesQuads : Instr → Bool
  | .gettopsD _ _ _ | .wrquadD _ _ | .wrquadPtr _ _ => true
  | _ => false

/-- The cog addresses whose access through a D or S operand R266 delays. GETPTRA and GETPTRB without a result
(Rb = 0) reach none; D of RDBYTEC, RDWORDC and RDLONGC is not among them: on a miss R266 exempts it, and on a
hit the read itself is delayed. -/
def addressedRegisters : Instr → List CogAddr
  | .wrbyteDS _ d x | .rdbyteDS _ _ d x | .wrwordDS _ d x | .rdwordDS _ _ d x
  | .wrlongDS _ d x | .rdlongDS _ _ d x => [d, x]
  | .wrbyteDPtr _ d _ | .rdbyteDPtr _ _ d _ | .wrwordDPtr _ d _ | .rdwordDPtr _ _ d _
  | .wrlongDPtr _ d _ | .rdlongDPtr _ _ d _ => [d]
  | .rdbytecDS _ _ _ x | .rdwordcDS _ _ _ x | .rdlongcDS _ _ _ x => [x]
  | .rdbytecDPtr _ _ _ _ | .rdwordcDPtr _ _ _ _ | .rdlongcDPtr _ _ _ _ => []
  | .wrquadD _ d | .rdquadD _ d | .rdquadcD _ d => [d]
  | .wrquadPtr _ _ | .rdquadPtr _ _ | .rdquadcPtr _ _ => []
  | .getptraD _ _ r _ d | .getptrbD _ _ r _ d => if r then [d] else []
  | .setptraD _ d | .setptrbD _ d | .addptraD _ d | .addptrbD _ d | .subptraD _ d | .subptrbD _ d => [d]
  | .setptraN _ _ | .setptrbN _ _ | .addptraN _ _ | .addptrbN _ _ | .subptraN _ _ | .subptrbN _ _ => []
  | .cachex _ => []
  | .gettopsD _ _ d => [d]
  | .setquadD _ d => [d]
  | .setquadN _ _ => []
  | .settaskN _ => []
  | .settaskD d => [d]
  | .jmptask (.reg a) (.reg m) => [a, m]
  | .jmptask (.reg a) (.lit _) => [a]
  | .jmptask (.lit _) (.reg m) => [m]
  | .jmptask (.lit _) (.lit _) => []
  | .jmpA _ => []
  | .notpN _ => []

/-! ## What a write leaves -/

/-- What a write of `v` to the cog register `d` leaves, through the overlay (R22): the register reads `v`,
every other cog address reads as before, and every raw register but `d` is unchanged, except those under
the overlay where the write went through it (D25). The write is recorded for R267: at the register alone,
or at the QUAD and the registers under the overlay (log 5, log 8). -/
structure WroteX (d : CogAddr) (v : Long) (s t : State) : Prop where
  value : t.word d = .long v
  others : ∀ a, a ≠ d → t.word a = s.word a
  raw : ∀ a : CogAddr, a ≠ d → (s.overlaid d = false ∨ s.overlaid a = false) →
    t.regs[a.toNat]'a.isLt = s.regs[a.toNat]'a.isLt
  quads : s.overlaid d = false → t.quads = s.quads
  marks : s.overlaid d = false →
    t.writtenAt = s.writtenAt.set d.toNat (some s.steps) d.isLt ∧ t.quadWrittenAt = s.quadWrittenAt
  overlayMarks : s.overlaid d = true →
    (∀ a : CogAddr, t.writtenAt[a.toNat]'a.isLt =
      if s.overlaid a = true then some s.steps else s.writtenAt[a.toNat]'a.isLt) ∧
    t.quadWrittenAt = s.quadWrittenAt.set (quadIndex d).val (some s.steps) (quadIndex d).isLt

/-- What an instruction that sends the result `v` to D, and to Z where Zb is 1, leaves of the state `s` in
which the result is written (R162): the register, the flag Z of the slot's pair, and nothing else of the
spec's state. -/
structure ResultWritten (zb : Bool) (src : ZSource) (d : CogAddr) (v : Long) (s t : State) : Prop where
  reg : WroteX d v s t
  z : t.flagPair.z = if zb then zValue s.params src v else s.flagPair.z
  c : t.flagPair.c = s.flagPair.c
  pairs : ∀ k : TaskId, k ≠ s.flagIndex → t.flags[k] = s.flags[k]
  frame : t = { s with
    regs := t.regs, quads := t.quads, flags := t.flags
    writtenAt := t.writtenAt, quadWrittenAt := t.quadWrittenAt, draws := t.draws }

/-- Some byte of the aligned unit of `n` bytes at the hub address `a` holds no known value (R33, log 2). -/
def State.unknownByte (s : State) (n : Nat) (a : HubAddr) : Prop :=
  ∃ k, k < n ∧ s.hub.byte (unitBase n a + k) = none

/-- What a store of the bytes `bs` from the hub address `b` on leaves of the hub: those bytes, and every
other byte as before (R65). -/
structure StoredBytes (b : Nat) (bs : List Byte) (s t : State) : Prop where
  stored : ∀ (k : Nat) (h : k < bs.length), t.hub.byte (b + k) = some bs[k]
  others : ∀ a, a < b ∨ b + bs.length ≤ a → t.hub.byte a = s.hub.byte a

end Sys2Proof.Machine
end

