-- ==== Sys2Proof/Certificates/Slice0/Obligations.lean ====
section
/-!
DEFINITION. The statements for the provers. The first definitions name the instructions of one shape by
their size, so that one statement covers bytes, words and longs.
-/

namespace Sys2Proof.Machine

/-- WRBYTE, WRWORD, WRLONG D,S. -/
def storeDS : DataSize → Cond → CogAddr → CogAddr → Instr
  | .byte => .wrbyteDS
  | .word => .wrwordDS
  | .long => .wrlongDS

/-- WRBYTE, WRWORD, WRLONG D,PTR. -/
def storePtr : DataSize → Cond → CogAddr → PtrExpr → Instr
  | .byte => .wrbyteDPtr
  | .word => .wrwordDPtr
  | .long => .wrlongDPtr

/-- RDBYTE, RDWORD, RDLONG D,S. -/
def loadDS : DataSize → Bool → Cond → CogAddr → CogAddr → Instr
  | .byte => .rdbyteDS
  | .word => .rdwordDS
  | .long => .rdlongDS

/-- RDBYTE, RDWORD, RDLONG D,PTR. -/
def loadPtr : DataSize → Bool → Cond → CogAddr → PtrExpr → Instr
  | .byte => .rdbyteDPtr
  | .word => .rdwordDPtr
  | .long => .rdlongDPtr

/-- RDBYTEC, RDWORDC, RDLONGC D,S. -/
def cachedDS : DataSize → Bool → Cond → CogAddr → CogAddr → Instr
  | .byte => .rdbytecDS
  | .word => .rdwordcDS
  | .long => .rdlongcDS

/-- RDBYTEC, RDWORDC, RDLONGC D,PTR. -/
def cachedPtr : DataSize → Bool → Cond → CogAddr → PtrExpr → Instr
  | .byte => .rdbytecDPtr
  | .word => .rdwordcDPtr
  | .long => .rdlongcDPtr

/-- The uncached reads as arguments of ZRule. -/
def loadSource : DataSize → ZSource
  | .byte => .rdbyte
  | .word => .rdword
  | .long => .rdlong

/-- The cached reads as arguments of ZRule. -/
def cachedSource : DataSize → ZSource
  | .byte => .rdbytec
  | .word => .rdwordc
  | .long => .rdlongc

/-- The value of an operand of JMPTASK. -/
def taskOperandBits (op : TaskOperand) (s : State) : Long :=
  match op with
  | .lit v => v
  | .reg a => s.x a

/-- An operand of JMPTASK can be read: a literal, or a register that is no QUAD still in its delay. -/
def taskOperandReady (op : TaskOperand) (s : State) : Bool :=
  match op with
  | .lit _ => true
  | .reg a => !s.early a

/-- The hub address of a register operand: bits 16..0 of the register (R64, R160). -/
def regAddress (src : CogAddr) (s : State) : HubAddr := (s.x src).setWidth 17

/-- A word of major opcode 000011 from its bits 25..22, COND, its D field and its function code (R102).
-/
def functionWord (group : BitVec 4) (k : Cond) (d code : BitVec 9) : Long := 0b000011#6 ++ group ++ k ++ d ++ code

/-- The fetch of the word at `a` meets no hazard (R72, R266, R267). -/
def fetchable (s : State) (a : CogAddr) : Prop :=
  (s.overlaid a = true → s.qex = 0) ∧ s.writtenTooRecently a = false

end Sys2Proof.Machine

open Sys2Proof Sys2Proof.Machine

/-! ## Encoding -/

/-- Every well-formed instruction has a word, and the decoder reads that word as that instruction, with
every operand at every value. -/
def Obligations.DecodeOfEncodeIsIdentity : Prop :=
  ∀ i : Instr, i.WellFormed → ∃ w, encode i = some w ∧ decode w = .ok i

/-- A word that decodes is the word the encoder writes for its instruction: no bit of it is dropped. -/
def Obligations.EncodeOfDecodeIsIdentity : Prop :=
  ∀ (w : Long) (i : Instr), decode w = .ok i → encode i = some w

/-- R110: the decoder accepts exactly the words that a row of the table matches, and no two rows match
the same word. -/
def Obligations.DecoderAcceptsExactlyTheTableRows : Prop :=
  (∀ w : Long, (∃ i, decode w = .ok i) ↔ ∃ row ∈ opcodeTable, row.accepts w = true) ∧
  ∀ (w : Long), ∀ r₁ ∈ opcodeTable, ∀ r₂ ∈ opcodeTable,
    r₁.accepts w = true → r₂.accepts w = true → r₁ = r₂

/-- R111: a word that no row matches is refused when a step fetches it (the spec's decision D29). -/
def Obligations.UnlistedWordIsRefused : Prop :=
  ∀ (s s₁ : State) (w : Long), beginSlot s = .next s₁ → s₁.word s₁.pc = .long w → fetchable s₁ s₁.pc →
    (∀ row ∈ opcodeTable, row.accepts w = false) → ∃ why, step s = .refused (.notInSpec why)

/-- R113: no word decodes to a form without an encoding, and the encoder has no word for one. -/
def Obligations.TaskTermsHaveNoWord : Prop :=
  ∀ t : TaskTerm, encode t.toInstr = none ∧ ∀ w : Long, decode w ≠ .ok t.toInstr

/-- Eight words written out from the spec's encodings decode to the instructions they stand for. -/
def Obligations.SampleWordsDecode : Prop :=
  decode 0x003C4021#32 = .ok (.wrbyteDS 15#4 0x020#9 0x021#9) ∧
  decode 0x047C41C1#32 = .ok (.wrwordDPtr 15#4 0x020#9 ⟨true, true, true, 1#6⟩) ∧
  decode 0x09FC40CF#32 = .ok (.rdlongcDPtr false 15#4 0x020#9 ⟨false, true, true, 15#6⟩) ∧
  decode 0x0D3C42B1#32 = .ok (.rdquadcD 15#4 0x021#9) ∧
  decode 0x0CFC4012#32 = .ok (.getptraD false false true 15#4 0x020#9) ∧
  decode 0x0CFC08B6#32 = .ok (.subptraN 15#4 4#9) ∧
  decode 0x0C7C0008#32 = .ok (.cachex 15#4) ∧
  decode 0x0C7C0208#32 = .error .cachexField

/-! ## The step -/

/-- R140: where the location at the slot's program counter holds a word that decodes to `i`, and no other
cog writes before this step, the step is `exec i` on the state with the counters of R266 counted down and
the program counter advanced, followed by the end of the slot. -/
def Obligations.StepRunsDecodedInstruction : Prop :=
  ∀ (s : State) (w : Long) (i : Instr), s.others = [] → s.tick.word s.pc = .long w → decode w = .ok i →
    fetchable s.tick s.pc →
    step s = andThen (exec i s.tick.advance) (fun t => .next (endSlot i t))

/-- R113, D37: the same for a location that holds an abstract word. -/
def Obligations.StepRunsPlacedTerm : Prop :=
  ∀ (s : State) (term : TaskTerm), s.others = [] → s.tick.word s.pc = .term term →
    fetchable s.tick s.pc →
    step s = andThen (exec term.toInstr s.tick.advance) (fun t => .next (endSlot term.toInstr t))

/-- R68, R241, R264(b): before a step the other cogs change hub memory and nothing else of this cog's
state (the spec's decision D39; log 6), and the step begins with their writes applied in order; a write
of theirs to ROM is refused. -/
def Obligations.OtherCogsReachOnlyTheHub : Prop :=
  (∀ s t : State, beginSlot s = .next t → t = { s.tick with hub := t.hub, others := s.others.tail } ∧
    applyWrites (s.others.headD []) s.hub = some t.hub) ∧
  ∀ s : State, applyWrites (s.others.headD []) s.hub = none → step s = .refused .romWrite

/-- R23: a step advances the program counter of the slot's task modulo 512 (the spec's decision D8) and
leaves the others, except that JMP writes the slot's task's and JMPTASK may write any. -/
def Obligations.ProgramCountersMoveOnlyAsRuled : Prop :=
  ∀ s t : State, step s = .next t → ∃ i, s.nextInstr = some i ∧ ∀ k : TaskId,
    t.pcs[k] = (if k = s.currentTask then s.pcs[k] + 1#9 else s.pcs[k]) ∨
    (∃ a m, i = .jmptask a m) ∨ (k = s.currentTask ∧ ∃ a, i = .jmpA a)

/-- R24, R140: a step of any instruction but SETTASK rotates TASK right by 2 bits (the spec's decision
D9). -/
def Obligations.TaskRotatesUnlessSettask : Prop :=
  ∀ s t : State, step s = .next t → ∃ i, s.nextInstr = some i ∧
    (isSettask i = false → t.task = s.task.rotateRight 2)

/-- R146(a), which the spec derives from R140: without an intervening SETTASK, TASK after k steps is
ror32(TASK0, 2k mod 32). -/
def Obligations.TaskAfterStepsIsRotation : Prop :=
  ∀ (k : Nat) (s t : State), State.NoSettaskFor k s → Host.Core.run Sys2Proof.core k s = .next t →
    t.task = s.task.rotateRight (2 * k % 32)

/-- R72 (the spec's inference): hub memory never changes what a cog fetches. -/
def Obligations.FetchIgnoresTheHub : Prop :=
  ∀ (s : State) (h : Memory), fetch { s with hub := h } = fetch s

/-- R266, R267, R72: a fetch from a mapped QUAD in its delay faults. Otherwise, what this run has written
through a D field in step k, the QUAD where it is mapped or the register, faults where ExecAfterWrite is not
given or is some n and the step is not beyond k + n; what was written earlier than that, or not at all, is
fetched (the spec's decisions D33, D34; how the writes are recorded is the model's, log 8). -/
def Obligations.EarlyFetchFaults : Prop :=
  ∀ s s₁ : State, beginSlot s = .next s₁ →
    (s₁.overlaid s₁.pc = true → 0 < s₁.qex → step s = .fault .quadNotExecutable) ∧
    ((s₁.overlaid s₁.pc = true → s₁.qex = 0) → ∀ w : Option Nat,
      (if s₁.overlaid s₁.pc = true then s₁.quadWrittenAt[quadIndex s₁.pc]
        else s₁.writtenAt[s₁.pc.toNat]'s₁.pc.isLt) = w →
      (w = none → fetch s₁ = instrOf (s₁.word s₁.pc)) ∧
      ∀ k, w = some k →
        (s₁.params.execAfterWrite = none → step s = .fault .fetchAfterWrite) ∧
        ∀ n, s₁.params.execAfterWrite = some n →
          (s₁.steps ≤ k + n → step s = .fault .fetchAfterWrite) ∧
          (k + n < s₁.steps → fetch s₁ = instrOf (s₁.word s₁.pc)))

/-- R266: each step counts both readiness counters down by one, unless it runs an instruction that fills
the QUADs, which sets them to 3 and 5 (the spec's decision D33). -/
def Obligations.ReadinessCountersFollowTheRule : Prop :=
  ∀ s t : State, step s = .next t → ∃ i, s.nextInstr = some i ∧
    ((t.qds = s.qds - 1 ∧ t.qex = s.qex - 1) ∨ (canFill i = true ∧ t.qds = 3 ∧ t.qex = 5))

/-! ## Cog start and invariants -/

/-- R32: for every launch, the program counters, TASK, PTRA, PTRB, the hidden QUADs, the readiness
counters, and the registers loaded from the code image. -/
def Obligations.CogStartValues : Prop :=
  ∀ l : Launch, l.wf = true →
    let s := State.launch l
    s.pcs = #v[0#9, 1#9, 2#9, 3#9] ∧ s.task = 0#32 ∧ s.currentTask = 0 ∧ s.ptra = l.data ∧
    s.ptrb.toNat = 4 * l.codeLong.toNat ∧ s.quadsMapped = false ∧ s.qds = 0 ∧ s.qex = 0 ∧
    s.hub = l.hub ∧
    ∀ (a : CogAddr) (v : Long), a.toNat < l.loadLongs → l.termAt a = none →
      l.hubAtLoad.longAt ((4 * l.codeLong.toNat + 4 * a.toNat) % 2 ^ 17) = some v → s.x a = v

/-- R32: what reset leaves of the values the spec gives, and that reset is the cog start of the launch
the model names in assumption log 1 (that launch's values are the model's choice). -/
def Obligations.ResetIsACogStart : Prop :=
  State.reset = State.launch Launch.ofReset ∧ Launch.ofReset.wf = true ∧
  State.reset.pcs = #v[0#9, 1#9, 2#9, 3#9] ∧ State.reset.task = 0#32 ∧
  State.reset.quadsMapped = false ∧ State.reset.qds = 0 ∧ State.reset.qex = 0

/-- The invariant holds at reset and at every well-formed cog start. -/
def Obligations.StartMeetsInvariant : Prop :=
  State.reset.Inv ∧ ∀ l : Launch, l.wf = true → (State.launch l).Inv

/-- Every step keeps the invariant: the canonical form of the hub RAM, the ranges of the readiness
counters, the width of OUT, and the order of the recorded writes. -/
def Obligations.StepKeepsInvariant : Prop :=
  ∀ s t : State, s.Inv → step s = .next t → t.Inv

/-- R70: while the QUADs are hidden and no other cog writes, every step keeps the cached window coherent
with the hub until this cog writes it. -/
def Obligations.StepKeepsCacheCoherent : Prop :=
  ∀ s t : State, s.others.headD [] = [] → s.quadsMapped = false → s.CacheCoherent → step s = .next t →
    t.CacheCoherent

/-- R70, R175: a cached read that hits a coherent window returns what the uncached read returns. -/
def Obligations.CoherentHitReturnsTheHubValue : Prop :=
  ∀ (s : State) (sz : DataSize) (a : HubAddr), s.CacheCoherent → s.hits a = true →
    s.windowWritten = false → s.hub.read sz a = some (s.fromCache sz a)

/-! ## Who writes what -/

/-- R29: OUT is written by NOTP only. -/
def Obligations.OnlyNotpWritesPins : Prop :=
  ∀ (i : Instr) (s t : State), exec i s = .next t → t.out ≠ s.out → ∃ n, i = .notpN n

/-- R22, R24: QBASE is written only by SETQUAD, TASK by an instruction only by SETTASK. -/
def Obligations.OnlySetquadAndSettaskWriteTheirRegisters : Prop :=
  ∀ (i : Instr) (s t : State), exec i s = .next t →
    (t.qbase ≠ s.qbase → (∃ k d, i = .setquadD k d) ∨ ∃ k n, i = .setquadN k n) ∧
    (t.task ≠ s.task → isSettask i = true)

/-- R27: Z is written only by the instructions of the list with bit 25 = 1, C only by GETPTRA and GETPTRB
with bit 24 = 1, and only the pair of flags the slot's task uses changes (R27 takes the flags from general
knowledge; FlagsPerTask, log 4). R162: the default ZRule is 1 exactly when the 32-bit result is 0 (general
knowledge, D4; log 15). -/
def Obligations.FlagsAreWrittenOnlyAsRuled : Prop :=
  (∀ (i : Instr) (s t : State), exec i s = .next t →
    (t.flags[s.flagIndex].z ≠ s.flags[s.flagIndex].z → zBit i = true) ∧
    (t.flags[s.flagIndex].c ≠ s.flags[s.flagIndex].c → cBit i = true) ∧
    ∀ k : TaskId, k ≠ s.flagIndex → t.flags[k] = s.flags[k]) ∧
  ∀ (p : Params) (src : ZSource) (v : Long), p.zRule = .resultIsZero →
    (zValue p src v = true ↔ v.toNat = 0)

/-- R25: a pointer is written only by the SETPTRx, ADDPTRx and SUBPTRx of that pointer and by a PTR
expression of that pointer whose U bit is 1. -/
def Obligations.PointersAreWrittenOnlyAsRuled : Prop :=
  ∀ (i : Instr) (s t : State) (b : Bool), exec i s = .next t → t.ptr b ≠ s.ptr b →
    pointerWritten i = some b ∨ ∃ k e n, ptrForm i = some (k, e, n) ∧ e.useB = b ∧ e.update = true

/-- R26, R30: the hub is written by the WR instructions only, and the QUADs' window state CV and CTAG
only by an instruction that can fill and by CACHEX. -/
def Obligations.HubAndCacheAreWrittenOnlyAsRuled : Prop :=
  ∀ (i : Instr) (s t : State), exec i s = .next t →
    (t.hub ≠ s.hub → writesHub i = true) ∧
    (t.cv ≠ s.cv ∨ t.ctag ≠ s.ctag → canFill i = true ∨ ∃ k, i = .cachex k)

/-- R28, R34: no step changes the push/pop RAM or a parameter. -/
def Obligations.PushPopAndParametersNeverChange : Prop :=
  ∀ s t : State, step s = .next t → t.pushPop = s.pushPop ∧ t.params = s.params

/-- R104, R140: an instruction executes where its condition holds, as it would with COND = %1111, and has no
effect at all where it does not (the spec's decisions D3, D15; CondHolds is a parameter, log 4). COND = %1111
holds in every state; under the default table, COND holds exactly when its bit 2*C + Z is 1 (R104, from
general knowledge; log 15). -/
def Obligations.ConditionDecidesExecution : Prop :=
  (∀ (i : Instr) (c : Cond) (s : State), i.condField = some c →
    exec i s = if s.holds c = true then exec (i.withCond 15#4) s else .next s) ∧
  (∀ s : State, s.holds 15#4 = true) ∧
  ∀ (s : State) (c : Cond), s.params.condTable = Params.default.condTable →
    s.holds c = c.getLsbD (2 * s.flagPair.c.toNat + s.flagPair.z.toNat)

/-- R223: addresses that are not double-even hide the QUADs, and all of them are equivalent in effect: a
step from one of them answers as from another, up to QBASE itself. -/
def Obligations.HiddenBasesAreEquivalent : Prop :=
  ∀ (s t : State) (q q' : BitVec 9), q.extractLsb' 0 2 ≠ 0#2 → q'.extractLsb' 0 2 ≠ 0#2 →
    step { s with qbase := q } = .next t →
    ∃ t', step { s with qbase := q' } = .next t' ∧ (t' = t ∨ t' = { t with qbase := q' })

/-! ## Registers and hub memory -/

/-- R22: a register write through the overlay; the longs under it become free values (the spec's decision
D25; log 5). R267: the write is recorded at the register, or at the QUAD and the registers under the overlay,
and nowhere else (how it is recorded is the model's, log 8). -/
def Obligations.RegisterWriteReachesOneRegister : Prop :=
  ∀ (s : State) (d : CogAddr) (v : Long), WroteX d v s (s.setX d v)

/-- R161: the address a PTR expression gives, and the pointers after each instruction that has one,
modulo 2^17 (the spec's decision D16); where U = 0 and P = 1 the address is the pointer (R112), and under the
parameter that takes the ruling D36 it is the sum (log 10). -/
def Obligations.PtrExpressionEvaluates : Prop :=
  (∀ (e : PtrExpr) (n : Nat) (s : State), ((ptrAddress e n s).toNat : Int) =
    if e.post = true ∧ (e.update = true ∨ s.params.pIgnoredWithoutU = false)
    then ((s.ptr e.useB).toNat : Int)
    else ((s.ptr e.useB).toNat + e.index.toInt * n) % 2 ^ 17) ∧
  ∀ (i : Instr) (k : Cond) (e : PtrExpr) (n : Nat) (s t : State), ptrForm i = some (k, e, n) →
    exec i s = .next t →
    ((t.ptr e.useB).toNat : Int) = (if s.holds k = true ∧ e.update = true
      then ((s.ptr e.useB).toNat + e.index.toInt * n) % 2 ^ 17 else ((s.ptr e.useB).toNat : Int)) ∧
    t.ptr (!e.useB) = s.ptr (!e.useB)

/-- R65, R62, R162: a read returns exactly the bytes of its aligned unit, the lowest address least
significant, and zeros above them. -/
def Obligations.ReadIsLittleEndian : Prop :=
  ∀ (m : Memory) (sz : DataSize) (a : HubAddr) (v : Long), m.read sz a = some v ↔
    (∀ k, k < sz.bytes → m.byte (unitBase sz.bytes a + k) = some (v.extractLsb' (8 * k) 8)) ∧
    v.toNat < 256 ^ sz.bytes

/-- R62: a mixed-width access sees the same bytes. -/
def Obligations.MixedWidthsSeeTheSameBytes : Prop :=
  ∀ (m h : Memory) (a : HubAddr) (v : Long), a.toNat % 4 = 0 →
    m.write 4 a (unitBytes .long v) = some h →
    h.read .long a = some v ∧ h.read .byte a = some (v &&& 0xFF#32) ∧
    h.read .byte (a + 1) = some (v >>> 8 &&& 0xFF#32) ∧ h.read .word (a + 2) = some (v >>> 16)

/-- R63: the low address bits of an access are ignored, in reads and in writes. -/
def Obligations.LowAddressBitsAreIgnored : Prop :=
  ∀ (m : Memory) (a a' : HubAddr),
    (∀ (sz : DataSize) (bs : List Byte), a.toNat / sz.bytes = a'.toNat / sz.bytes →
      m.read sz a = m.read sz a' ∧ m.write sz.bytes a bs = m.write sz.bytes a' bs) ∧
    ∀ bs : List Byte, a.toNat / 16 = a'.toNat / 16 →
      m.readQuad a = m.readQuad a' ∧ m.write 16 a bs = m.write 16 a' bs

/-! ## Bytes, words and longs -/

/-- R163, R166, R169: WRBYTE, WRWORD and WRLONG with a register address store the low bytes of D at the
aligned unit, and change nothing else. -/
def Obligations.StoreThroughRegister : Prop :=
  ∀ (sz : DataSize) (k : Cond) (d src : CogAddr) (s : State), s.holds k = true →
    s.early d = false → s.early src = false → romEnd ≤ unitBase sz.bytes (regAddress src s) →
    ∃ t, exec (storeDS sz k d src) s = .next t ∧
      StoredBytes (unitBase sz.bytes (regAddress src s)) (unitBytes sz (s.x d)) s t ∧
      t = { s with hub := t.hub, windowWritten := s.windowWritten || s.hits (regAddress src s) }

/-- R163, R166, R169: the same with a PTR expression; the pointer is updated as the expression says. -/
def Obligations.StoreThroughPointer : Prop :=
  ∀ (sz : DataSize) (k : Cond) (d : CogAddr) (e : PtrExpr) (s : State), s.holds k = true →
    s.early d = false → romEnd ≤ unitBase sz.bytes (ptrAddress e sz.bytes s) →
    ∃ t, exec (storePtr sz k d e) s = .next t ∧
      StoredBytes (unitBase sz.bytes (ptrAddress e sz.bytes s)) (unitBytes sz (s.x d)) s t ∧
      t = { ptrUpdate e sz.bytes s with
        hub := t.hub, windowWritten := s.windowWritten || s.hits (ptrAddress e sz.bytes s) }

/-- R65: a store any of whose bytes lies in ROM is refused, in all eight forms (the spec's decision
D27). -/
def Obligations.StoreToRomIsRefused : Prop :=
  ∀ (k : Cond) (d src : CogAddr) (e : PtrExpr) (s : State), s.holds k = true → s.early d = false →
    s.early src = false →
    (∀ sz : DataSize,
      (unitBase sz.bytes (regAddress src s) < romEnd → exec (storeDS sz k d src) s = .refused .romWrite) ∧
      (unitBase sz.bytes (ptrAddress e sz.bytes s) < romEnd →
        exec (storePtr sz k d e) s = .refused .romWrite)) ∧
    (s.qds = 0 →
      (unitBase 16 (regAddress d s) < romEnd → exec (.wrquadD k d) s = .refused .romWrite) ∧
      (unitBase 16 (ptrAddress e 16 s) < romEnd → exec (.wrquadPtr k e) s = .refused .romWrite))

/-- R164, R167, R170: RDBYTE, RDWORD and RDLONG with a register address: the value read, zero-extended (the
spec's decision D18), goes to D, and Z follows ZRule where Zb is 1. A byte of the unit without a known value
is a fault (R33, the spec's decision D38; log 2). -/
def Obligations.LoadThroughRegister : Prop :=
  ∀ (sz : DataSize) (z : Bool) (k : Cond) (d src : CogAddr) (s : State), s.holds k = true →
    s.early d = false → s.early src = false →
    (∀ v : Long, s.hub.read sz (regAddress src s) = some v →
      ∃ t, exec (loadDS sz z k d src) s = .next t ∧ ResultWritten z (loadSource sz) d v s t) ∧
    (s.unknownByte sz.bytes (regAddress src s) → exec (loadDS sz z k d src) s = .fault .hubByteUnwritten)

/-- R164, R167, R170: the same with a PTR expression. -/
def Obligations.LoadThroughPointer : Prop :=
  ∀ (sz : DataSize) (z : Bool) (k : Cond) (d : CogAddr) (e : PtrExpr) (s : State), s.holds k = true →
    s.early d = false →
    (∀ v : Long, s.hub.read sz (ptrAddress e sz.bytes s) = some v →
      ∃ t, exec (loadPtr sz z k d e) s = .next t ∧
        ResultWritten z (loadSource sz) d v (ptrUpdate e sz.bytes s) t) ∧
    (s.unknownByte sz.bytes (ptrAddress e sz.bytes s) →
      exec (loadPtr sz z k d e) s = .fault .hubByteUnwritten)

/-- R165, R168, R171, R175: a cached read that misses fills the QUADs and the window, starts the readiness
delay, and returns what the uncached read of the same address would return; that data goes to D even where D is
a QUAD in its delay (R266). A byte of the quad without a known value is a fault (R33, the spec's decision D38;
log 2). -/
def Obligations.CachedMissFillsAndReturnsTheHubValue : Prop :=
  ∀ (sz : DataSize) (z : Bool) (k : Cond) (d src : CogAddr) (e : PtrExpr) (s : State),
    s.holds k = true →
    (s.early src = false → s.hits (regAddress src s) = false →
      (∀ q : Vector Long 4, s.hub.readQuad (regAddress src s) = some q →
        ∃ t v, exec (cachedDS sz z k d src) s = .next t ∧ s.hub.read sz (regAddress src s) = some v ∧
          ResultWritten z (cachedSource sz) d v (s.loadQuads q true (windowOf (regAddress src s))) t) ∧
      (s.unknownByte 16 (regAddress src s) →
        exec (cachedDS sz z k d src) s = .fault .hubByteUnwritten)) ∧
    (s.hits (ptrAddress e sz.bytes s) = false →
      (∀ q : Vector Long 4, s.hub.readQuad (ptrAddress e sz.bytes s) = some q →
        ∃ t v, exec (cachedPtr sz z k d e) s = .next t ∧
          s.hub.read sz (ptrAddress e sz.bytes s) = some v ∧
          ResultWritten z (cachedSource sz) d v
            ((ptrUpdate e sz.bytes s).loadQuads q true (windowOf (ptrAddress e sz.bytes s))) t) ∧
      (s.unknownByte 16 (ptrAddress e sz.bytes s) →
        exec (cachedPtr sz z k d e) s = .fault .hubByteUnwritten))

/-- R165, R168, R171: a cached read that hits reads no hub byte; its value comes from the QUADs, as they
stand (the spec's decision D22). -/
def Obligations.CachedHitReturnsTheQuads : Prop :=
  ∀ (sz : DataSize) (z : Bool) (k : Cond) (d src : CogAddr) (e : PtrExpr) (s : State),
    s.holds k = true → s.qds = 0 → s.windowWritten = false →
    (s.hits (regAddress src s) = true →
      ∃ t, exec (cachedDS sz z k d src) s = .next t ∧
        ResultWritten z (cachedSource sz) d (s.fromCache sz (regAddress src s)) s t) ∧
    (s.hits (ptrAddress e sz.bytes s) = true →
      ∃ t, exec (cachedPtr sz z k d e) s = .next t ∧
        ResultWritten z (cachedSource sz) d (s.fromCache sz (ptrAddress e sz.bytes s))
          (ptrUpdate e sz.bytes s) t)

/-- R175: the value taken from the QUADs is made of the bytes that lie at the unit's place in the quad,
and is zero above them. -/
def Obligations.CacheExtractionTakesTheUnitsBytes : Prop :=
  ∀ (s : State) (sz : DataSize) (a : HubAddr),
    (∀ k, k < sz.bytes → (quadBytes s.quads)[(unitBase sz.bytes a + k) % 16]? =
      some ((s.fromCache sz a).extractLsb' (8 * k) 8)) ∧
    (s.fromCache sz a).toNat < 256 ^ sz.bytes

/-- R70: a cached read that hits a window this cog has written since the fill is a fault, in every form
(the spec's decision D23). With qds > 0 R266 asks for a fault too: that this one is reported is the model's
choice (log 19). -/
def Obligations.StaleCacheHitFaults : Prop :=
  ∀ (z : Bool) (k : Cond) (d src : CogAddr) (e : PtrExpr) (s : State), s.holds k = true →
    s.windowWritten = true →
    (∀ sz : DataSize,
      (s.early src = false → s.hits (regAddress src s) = true →
        exec (cachedDS sz z k d src) s = .fault .staleCacheHit) ∧
      (s.hits (ptrAddress e sz.bytes s) = true →
        exec (cachedPtr sz z k d e) s = .fault .staleCacheHit)) ∧
    (s.early d = false → s.hits (regAddress d s) = true →
      exec (.rdquadcD k d) s = .fault .staleCacheHit) ∧
    (s.hits (ptrAddress e 16 s) = true → exec (.rdquadcPtr k e) s = .fault .staleCacheHit)

/-- R266: while qds > 0, GETTOPS, WRQUAD, and every instruction one of whose D or S addresses denotes a
mapped QUAD (but for D of a cached read) faults, where it executes at all; and so does every form of a cached
read that hits a window this cog has not written since the fill (the spec's decision D33; that GETPTRx with
Rb = 0 reaches no register is log 16). Where another stop applies to the same instruction, such as a WRQUAD to
ROM, that this one is reported is the model's choice (log 19). -/
def Obligations.EarlyQuadUseFaults : Prop :=
  (∀ (i : Instr) (s : State), (∀ k, i.condField = some k → s.holds k = true) → 0 < s.qds →
    (takesQuads i = true ∨ ∃ a ∈ addressedRegisters i, s.overlaid a = true) →
    exec i s = .fault .quadNotReady) ∧
  ∀ (sz : DataSize) (z : Bool) (k : Cond) (d src : CogAddr) (e : PtrExpr) (s : State),
    s.holds k = true → 0 < s.qds → s.windowWritten = false →
    (s.hits (regAddress src s) = true → exec (cachedDS sz z k d src) s = .fault .quadNotReady) ∧
    (s.hits (ptrAddress e sz.bytes s) = true → exec (cachedPtr sz z k d e) s = .fault .quadNotReady) ∧
    (s.hits (regAddress d s) = true → exec (.rdquadcD k d) s = .fault .quadNotReady) ∧
    (s.hits (ptrAddress e 16 s) = true → exec (.rdquadcPtr k e) s = .fault .quadNotReady)

/-! ## Quads -/

/-- R172: WRQUAD stores the sixteen bytes of the QUADs, Q[0] lowest (the spec's decision D19), and
changes nothing else of the spec's state (D23). -/
def Obligations.WrquadStoresTheQuads : Prop :=
  ∀ (k : Cond) (d : CogAddr) (e : PtrExpr) (s : State), s.holds k = true → s.qds = 0 →
    (romEnd ≤ unitBase 16 (regAddress d s) → ∃ t, exec (.wrquadD k d) s = .next t ∧
      StoredBytes (unitBase 16 (regAddress d s)) (quadBytes s.quads) s t ∧
      t = { s with hub := t.hub, windowWritten := s.windowWritten || s.hits (regAddress d s) }) ∧
    (romEnd ≤ unitBase 16 (ptrAddress e 16 s) → ∃ t, exec (.wrquadPtr k e) s = .next t ∧
      StoredBytes (unitBase 16 (ptrAddress e 16 s)) (quadBytes s.quads) s t ∧
      t = { ptrUpdate e 16 s with
        hub := t.hub, windowWritten := s.windowWritten || s.hits (ptrAddress e 16 s) })

/-- R173: RDQUAD loads the four longs of the quad, starts the readiness delay, and moves the window where
ExplicitRdquadValidates, or clears CV otherwise (the spec's decision D21; log 17). A byte of the quad without
a known value is a fault (R33, the spec's decision D38; log 2). -/
def Obligations.RdquadLoadsTheQuads : Prop :=
  ∀ (k : Cond) (d : CogAddr) (e : PtrExpr) (s : State), s.holds k = true →
    (s.early d = false →
      (∀ q : Vector Long 4,
        (∀ j : Fin 4, s.hub.longAt (unitBase 16 (regAddress d s) + 4 * j.val) = some q[j]) →
        exec (.rdquadD k d) s = .next { s with
          quads := q, cv := s.params.explicitRdquadValidates, windowWritten := false, qds := 3, qex := 5
          ctag := if s.params.explicitRdquadValidates = true then windowOf (regAddress d s) else s.ctag
          quadWrittenAt := Vector.replicate 4 none }) ∧
      (s.unknownByte 16 (regAddress d s) → exec (.rdquadD k d) s = .fault .hubByteUnwritten)) ∧
    (∀ q : Vector Long 4,
      (∀ j : Fin 4, s.hub.longAt (unitBase 16 (ptrAddress e 16 s) + 4 * j.val) = some q[j]) →
      exec (.rdquadPtr k e) s = .next { ptrUpdate e 16 s with
        quads := q, cv := s.params.explicitRdquadValidates, windowWritten := false, qds := 3, qex := 5
        ctag := if s.params.explicitRdquadValidates = true then windowOf (ptrAddress e 16 s) else s.ctag
        quadWrittenAt := Vector.replicate 4 none }) ∧
    (s.unknownByte 16 (ptrAddress e 16 s) → exec (.rdquadPtr k e) s = .fault .hubByteUnwritten)

/-- R174: RDQUADC fills on a miss, with CV and CTAG always set, and changes only the pointer on a hit. On a
miss a byte of the quad without a known value is a fault (R33, the spec's decision D38; log 2). -/
def Obligations.RdquadcFillsOnlyOnAMiss : Prop :=
  ∀ (k : Cond) (d : CogAddr) (e : PtrExpr) (s : State), s.holds k = true →
    (s.early d = false → s.hits (regAddress d s) = false →
      (∀ q : Vector Long 4,
        (∀ j : Fin 4, s.hub.longAt (unitBase 16 (regAddress d s) + 4 * j.val) = some q[j]) →
        exec (.rdquadcD k d) s = .next { s with
          quads := q, cv := true, ctag := windowOf (regAddress d s), windowWritten := false
          qds := 3, qex := 5, quadWrittenAt := Vector.replicate 4 none }) ∧
      (s.unknownByte 16 (regAddress d s) → exec (.rdquadcD k d) s = .fault .hubByteUnwritten)) ∧
    (s.hits (ptrAddress e 16 s) = false →
      (∀ q : Vector Long 4,
        (∀ j : Fin 4, s.hub.longAt (unitBase 16 (ptrAddress e 16 s) + 4 * j.val) = some q[j]) →
        exec (.rdquadcPtr k e) s = .next { ptrUpdate e 16 s with
          quads := q, cv := true, ctag := windowOf (ptrAddress e 16 s), windowWritten := false
          qds := 3, qex := 5, quadWrittenAt := Vector.replicate 4 none }) ∧
      (s.unknownByte 16 (ptrAddress e 16 s) → exec (.rdquadcPtr k e) s = .fault .hubByteUnwritten)) ∧
    (s.qds = 0 → s.windowWritten = false →
      (s.hits (regAddress d s) = true → exec (.rdquadcD k d) s = .next s) ∧
      (s.hits (ptrAddress e 16 s) = true → exec (.rdquadcPtr k e) s = .next (ptrUpdate e 16 s)))

/-- R221: CACHEX clears CV and changes nothing else, and the next cached read fills, whatever its
address; its word, and its one clock. -/
def Obligations.CachexInvalidates : Prop :=
  ∀ k : Cond,
    decode (functionWord 0b0001#4 k 0b000000000#9 0b000001000#9) = .ok (.cachex k) ∧
    (∀ hit : Bool, clockBounds hit (.cachex k) = some (1, 1)) ∧
    ∀ s : State, s.holds k = true →
      exec (.cachex k) s = .next { s with cv := false } ∧
      ∀ a : HubAddr, { s with cv := false }.hits a = false ∧
        cacheLookup a { s with cv := false } = cacheFill a { s with cv := false }

/-- R222: GETTOPS packs bits 31..24 of the QUADs into the bytes of D, in the order TopsOrder says
(the spec's decision D20). -/
def Obligations.GettopsPacksTheTopBytes : Prop :=
  ∀ (z : Bool) (k : Cond) (d : CogAddr) (s : State), s.holds k = true → s.qds = 0 →
    ∃ t v, exec (.gettopsD z k d) s = .next t ∧ ResultWritten z .gettops d v s t ∧
      ∀ j : Fin 4, v.extractLsb' (8 * j.val) 8 =
        (match s.params.topsOrder with
          | .quadOrder => s.quads[j]
          | .reversed => s.quads[j.rev]).extractLsb' 24 8

/-- R223, R22: SETQUAD writes bits 8..0 of its operand to QBASE and nothing else; the QUADs are mapped
exactly when QBASE[1:0] = 0, and then QBASE + j denotes Q[j]. -/
def Obligations.SetquadMapsOrHides : Prop :=
  ∀ (k : Cond) (d : CogAddr) (n : BitVec 9) (s : State), s.holds k = true →
    (s.early d = false → exec (.setquadD k d) s = .next { s with qbase := (s.x d).extractLsb' 0 9 }) ∧
    exec (.setquadN k n) s = .next { s with qbase := n } ∧
    ({ s with qbase := n }.quadsMapped = true ↔ n.toNat % 4 = 0) ∧
    (n.toNat % 4 = 0 → ∀ j : Fin 4, { s with qbase := n }.x (n + BitVec.ofNat 9 j.val) = s.quads[j]) ∧
    (n.toNat % 4 ≠ 0 → ∀ a : CogAddr, { s with qbase := n }.word a = s.regs[a.toNat]'a.isLt)

/-! ## Pointers -/

/-- R201, R202: GETPTRA and GETPTRB with Rb = 1 write the pointer, zero-extended (the spec's decision
D17), to D; Z follows ZRule where Zb is 1, and C is unchanged where Cb is 0. -/
def Obligations.GetptrReadsThePointer : Prop :=
  ∀ (z c : Bool) (k : Cond) (d : CogAddr) (s : State), s.holds k = true → s.early d = false →
    (∃ t, exec (.getptraD z c true k d) s = .next t ∧ WroteX d (BitVec.ofNat 32 s.ptra.toNat) s t ∧
      t.flagPair.z = (if z = true then zValue s.params .getptra (BitVec.ofNat 32 s.ptra.toNat)
        else s.flagPair.z) ∧
      (c = false → t.flagPair.c = s.flagPair.c) ∧
      (∀ j : TaskId, j ≠ s.flagIndex → t.flags[j] = s.flags[j]) ∧
      t = { s with
        regs := t.regs, quads := t.quads, flags := t.flags
        writtenAt := t.writtenAt, quadWrittenAt := t.quadWrittenAt, draws := t.draws }) ∧
    (∃ t, exec (.getptrbD z c true k d) s = .next t ∧ WroteX d (BitVec.ofNat 32 s.ptrb.toNat) s t ∧
      t.flagPair.z = (if z = true then zValue s.params .getptrb (BitVec.ofNat 32 s.ptrb.toNat)
        else s.flagPair.z) ∧
      (c = false → t.flagPair.c = s.flagPair.c) ∧
      (∀ j : TaskId, j ≠ s.flagIndex → t.flags[j] = s.flags[j]) ∧
      t = { s with
        regs := t.regs, quads := t.quads, flags := t.flags
        writtenAt := t.writtenAt, quadWrittenAt := t.quadWrittenAt, draws := t.draws })

/-- R200: with Rb = 0 GETPTRA and GETPTRB leave every register as it was, and write the flags as if D had
been written (the spec's decision D6). -/
def Obligations.GetptrWithoutResultLeavesD : Prop :=
  ∀ (z c : Bool) (k : Cond) (d : CogAddr) (s : State), s.holds k = true →
    (∃ t, exec (.getptraD z c false k d) s = .next t ∧
      t.flagPair.z = (if z = true then zValue s.params .getptra (BitVec.ofNat 32 s.ptra.toNat)
        else s.flagPair.z) ∧
      (c = false → t.flagPair.c = s.flagPair.c) ∧
      (∀ j : TaskId, j ≠ s.flagIndex → t.flags[j] = s.flags[j]) ∧
      t = { s with flags := t.flags, draws := t.draws }) ∧
    (∃ t, exec (.getptrbD z c false k d) s = .next t ∧
      t.flagPair.z = (if z = true then zValue s.params .getptrb (BitVec.ofNat 32 s.ptrb.toNat)
        else s.flagPair.z) ∧
      (c = false → t.flagPair.c = s.flagPair.c) ∧
      (∀ j : TaskId, j ≠ s.flagIndex → t.flags[j] = s.flags[j]) ∧
      t = { s with flags := t.flags, draws := t.draws })

/-- R203, R204: SETPTRA and SETPTRB take bits 16..0 of a register, or a literal 0..511, and change
nothing else; their words, and their one clock. -/
def Obligations.SetptrLoadsThePointer : Prop :=
  ∀ (k : Cond) (d : CogAddr) (n : BitVec 9),
    decode (functionWord 0b0001#4 k d 0b010110010#9) = .ok (.setptraD k d) ∧
    decode (functionWord 0b0011#4 k n 0b010110010#9) = .ok (.setptraN k n) ∧
    decode (functionWord 0b0001#4 k d 0b010110011#9) = .ok (.setptrbD k d) ∧
    decode (functionWord 0b0011#4 k n 0b010110011#9) = .ok (.setptrbN k n) ∧
    (∀ i ∈ [Instr.setptraD k d, .setptraN k n, .setptrbD k d, .setptrbN k n], ∀ hit : Bool,
      clockBounds hit i = some (1, 1)) ∧
    ∀ s : State, s.holds k = true →
      (s.early d = false →
        exec (.setptraD k d) s = .next { s with ptra := (s.x d).extractLsb' 0 17 } ∧
        exec (.setptrbD k d) s = .next { s with ptrb := (s.x d).extractLsb' 0 17 }) ∧
      exec (.setptraN k n) s = .next { s with ptra := BitVec.ofNat 17 n.toNat } ∧
      exec (.setptrbN k n) s = .next { s with ptrb := BitVec.ofNat 17 n.toNat }

/-- R205, R206: ADDPTRA and ADDPTRB, modulo 2^17, write the pointer and nothing else; their words, and
their one clock. -/
def Obligations.AddptrAddsModuloTheWidth : Prop :=
  ∀ (k : Cond) (d : CogAddr) (n : BitVec 9),
    decode (functionWord 0b0001#4 k d 0b010110100#9) = .ok (.addptraD k d) ∧
    decode (functionWord 0b0011#4 k n 0b010110100#9) = .ok (.addptraN k n) ∧
    decode (functionWord 0b0001#4 k d 0b010110101#9) = .ok (.addptrbD k d) ∧
    decode (functionWord 0b0011#4 k n 0b010110101#9) = .ok (.addptrbN k n) ∧
    (∀ i ∈ [Instr.addptraD k d, .addptraN k n, .addptrbD k d, .addptrbN k n], ∀ hit : Bool,
      clockBounds hit i = some (1, 1)) ∧
    ∀ s : State, s.holds k = true →
      (s.early d = false →
        exec (.addptraD k d) s = .next { s with ptra := BitVec.ofNat 17 (s.ptra.toNat + (s.x d).toNat) } ∧
        exec (.addptrbD k d) s = .next { s with ptrb := BitVec.ofNat 17 (s.ptrb.toNat + (s.x d).toNat) }) ∧
      exec (.addptraN k n) s = .next { s with ptra := BitVec.ofNat 17 (s.ptra.toNat + n.toNat) } ∧
      exec (.addptrbN k n) s = .next { s with ptrb := BitVec.ofNat 17 (s.ptrb.toNat + n.toNat) }

/-- R207, R208: SUBPTRA and SUBPTRB, modulo 2^17, write the pointer and nothing else; their words, and
their one clock. -/
def Obligations.SubptrSubtractsModuloTheWidth : Prop :=
  ∀ (k : Cond) (d : CogAddr) (n : BitVec 9),
    decode (functionWord 0b0001#4 k d 0b010110110#9) = .ok (.subptraD k d) ∧
    decode (functionWord 0b0011#4 k n 0b010110110#9) = .ok (.subptraN k n) ∧
    decode (functionWord 0b0001#4 k d 0b010110111#9) = .ok (.subptrbD k d) ∧
    decode (functionWord 0b0011#4 k n 0b010110111#9) = .ok (.subptrbN k n) ∧
    (∀ i ∈ [Instr.subptraD k d, .subptraN k n, .subptrbD k d, .subptrbN k n], ∀ hit : Bool,
      clockBounds hit i = some (1, 1)) ∧
    ∀ s : State, s.holds k = true →
      (s.early d = false →
        exec (.subptraD k d) s = .next { s with ptra := BitVec.ofInt 17 (s.ptra.toNat - (s.x d).toNat) } ∧
        exec (.subptrbD k d) s = .next { s with ptrb := BitVec.ofInt 17 (s.ptrb.toNat - (s.x d).toNat) }) ∧
      exec (.subptraN k n) s = .next { s with ptra := BitVec.ofInt 17 (s.ptra.toNat - n.toNat) } ∧
      exec (.subptrbN k n) s = .next { s with ptrb := BitVec.ofInt 17 (s.ptrb.toNat - n.toNat) }

/-! ## Tasks -/

/-- R141: SETTASK #n loads the low 8 bits of n, replicated four times, and the rotation of the same step
follows where SettaskRotates (the spec's decisions D10, D14). -/
def Obligations.SettaskImmediateReplicates : Prop :=
  ∀ (n : Long) (s t : State), ∃ v : BitVec 32, (∀ j, j < 32 → v.getLsbD j = n.getLsbD (j % 8)) ∧
    exec (.settaskN n) s = .next { s with task := v } ∧
    (s.nextInstr = some (.settaskN n) → step s = .next t →
      t.task = if s.params.settaskRotates = true then v.rotateRight 2 else v)

/-- R142: SETTASK D loads all 32 bits of the register, and the rotation of the same step follows where
SettaskRotates. -/
def Obligations.SettaskRegisterLoads : Prop :=
  ∀ (d : CogAddr) (s t : State),
    (s.early d = false → exec (.settaskD d) s = .next { s with task := s.x d }) ∧
    (s.nextInstr = some (.settaskD d) → step s = .next t →
      t.task = if s.params.settaskRotates = true then (s.x d).rotateRight 2 else s.x d)

/-- R143: JMPTASK sets the program counters that its mask names to the low 9 bits of the address, and
nothing else; in a step its value overrides the advance of the executing task (the spec's decision
D13 for the operand forms). -/
def Obligations.JmptaskSetsTheMaskedCounters : Prop :=
  (∀ (a m : TaskOperand) (s : State), taskOperandReady a s = true → taskOperandReady m s = true →
    ∃ t, exec (.jmptask a m) s = .next t ∧
      (∀ j : TaskId, t.pcs[j] = if (taskOperandBits m s).getLsbD j.val = true
        then (taskOperandBits a s).extractLsb' 0 9 else s.pcs[j]) ∧
      t = { s with pcs := t.pcs }) ∧
  ∀ (a m : Long) (s t : State), s.nextInstr = some (.jmptask (.lit a) (.lit m)) → step s = .next t →
    ∀ j : TaskId, t.pcs[j] = if m.getLsbD j.val = true then a.extractLsb' 0 9
      else if j = s.currentTask then s.pcs[j] + 1#9 else s.pcs[j]

/-- R144: JMP #a sets the program counter of the executing task to the low 9 bits of a, and nothing else;
in a step its value overrides the advance. -/
def Obligations.JmpSetsItsOwnCounter : Prop :=
  ∀ (a : Long) (s : State), ∃ t, exec (.jmpA a) s = .next t ∧
    (∀ j : TaskId, t.pcs[j] = if j = s.currentTask then a.extractLsb' 0 9 else s.pcs[j]) ∧
    t = { s with pcs := t.pcs } ∧
    ∀ u : State, s.nextInstr = some (.jmpA a) → step s = .next u →
      ∀ j : TaskId, u.pcs[j] = if j = s.currentTask then a.extractLsb' 0 9 else s.pcs[j]

/-- R145: NOTP #n complements OUT[n] and nothing else; a pin outside NPINS is refused (the spec's
decision D31). -/
def Obligations.NotpTogglesOnePin : Prop :=
  ∀ (n : Long) (s : State),
    (n.toNat < s.params.npins → ∃ t, exec (.notpN n) s = .next t ∧
      (∀ j, t.out.testBit j = if j = n.toNat then !s.out.testBit j else s.out.testBit j) ∧
      t = { s with out := t.out }) ∧
    (s.params.npins ≤ n.toNat → exec (.notpN n) s = .refused .noSuchPin)
end

