-- ==== Sys2Proof/Laws/Memory.lean ====
section
/-!
SUPPORT. The laws of the hub memory: a read after a write, the bytes a write leaves alone, the alignment
of units, and the canonical form that every memory operation keeps.
-/

namespace Sys2Proof.Machine

/-! ## One byte -/

theorem Memory.find_setByte (m : Memory) (a b : Nat) (v : Byte) :
    (m.setByte a v).find b = if b = a then some v else m.find b := by
  induction m with
  | nil => simp [Memory.setByte, Memory.find]
  | cons p m ih =>
    obtain ⟨k, w⟩ := p
    simp only [Memory.setByte]
    split
    · simp [Memory.find]
    · split
      · rename_i h
        subst h
        by_cases hb : b = a <;> simp [Memory.find, hb]
      · rename_i hk
        simp only [Memory.find, ih]
        by_cases hb : b = k
        · subst hb
          simp [Ne.symm hk]
        · simp [hb]

/-- A read after a write of one RAM byte. -/
theorem Memory.byte_setByte (m : Memory) (a b : Nat) (v : Byte) (ha : romEnd ≤ a) :
    (m.setByte a v).byte b = if b = a then some v else m.byte b := by
  unfold Memory.byte
  rw [Memory.find_setByte]
  by_cases hb : b < romEnd
  · have : b ≠ a := by omega
    simp [hb, this]
  · simp [hb]

/-- A read after a write of successive RAM bytes. -/
theorem Memory.byte_setBytes (m : Memory) (a b : Nat) (bs : List Byte) (ha : romEnd ≤ a) :
    (m.setBytes a bs).byte b = if a ≤ b ∧ b < a + bs.length then bs[b - a]? else m.byte b := by
  induction bs generalizing m a with
  | nil =>
    have h : ¬ (a ≤ b ∧ b < a + ([] : List Byte).length) := by simp
    rw [if_neg h]
    rfl
  | cons v vs ih =>
    rw [Memory.setBytes, ih _ _ (by omega), Memory.byte_setByte _ _ _ _ ha]
    by_cases hb : b = a
    · subst hb
      simp
    · by_cases hin : a + 1 ≤ b ∧ b < a + 1 + vs.length
      · have h1 : a ≤ b ∧ b < a + (v :: vs).length := by simp; omega
        have h2 : b - a = b - (a + 1) + 1 := by omega
        simp only [hin, h1, and_self, if_true, h2, List.getElem?_cons_succ]
      · have h1 : ¬ (a ≤ b ∧ b < a + (v :: vs).length) := by simp at *; omega
        rw [if_neg hin, if_neg hb, if_neg h1]

/-! ## The canonical form -/

theorem Memory.wfFrom_setByte (m : Memory) (lo a : Nat) (v : Byte) (hlo : lo ≤ a) (ha : a < hubBytes)
    (h : Memory.wfFrom lo m = true) : Memory.wfFrom lo (m.setByte a v) = true := by
  induction m generalizing lo with
  | nil => simp [Memory.setByte, Memory.wfFrom, hlo, ha]
  | cons p m ih =>
    obtain ⟨k, w⟩ := p
    simp only [Memory.wfFrom, Bool.and_eq_true, decide_eq_true_eq] at h
    simp only [Memory.setByte]
    split
    · simp only [Memory.wfFrom, Bool.and_eq_true, decide_eq_true_eq]
      exact ⟨⟨hlo, ha⟩, ⟨by omega, h.1.2⟩, h.2⟩
    · split
      · rename_i hak
        subst hak
        simp only [Memory.wfFrom, Bool.and_eq_true, decide_eq_true_eq]
        exact ⟨⟨hlo, ha⟩, h.2⟩
      · simp only [Memory.wfFrom, Bool.and_eq_true, decide_eq_true_eq]
        exact ⟨h.1, ih _ (by omega) h.2⟩

theorem Memory.wf_setBytes (m : Memory) (a : Nat) (bs : List Byte) (ha : romEnd ≤ a)
    (hb : a + bs.length ≤ hubBytes) (h : m.wf = true) : (m.setBytes a bs).wf = true := by
  induction bs generalizing m a with
  | nil => exact h
  | cons v vs ih =>
    simp only [List.length_cons] at hb
    exact ih _ _ (by omega) (by omega) (Memory.wfFrom_setByte _ _ _ _ ha (by omega) h)

/-! ## Alignment -/

theorem unitBase_le (n : Nat) (a : HubAddr) : unitBase n a ≤ a.toNat := Nat.sub_le _ _

theorem unitBase_eq (n : Nat) (a : HubAddr) : unitBase n a = n * (a.toNat / n) := by
  unfold unitBase
  have := Nat.div_add_mod a.toNat n
  omega

theorem unitBase_add_le {n : Nat} (hn : n = 1 ∨ n = 2 ∨ n = 4 ∨ n = 16) (a : HubAddr) :
    unitBase n a + n ≤ hubBytes := by
  have h := a.isLt
  unfold unitBase hubBytes
  rcases hn with rfl | rfl | rfl | rfl <;> omega

theorem dataSize_bytes_cases (sz : DataSize) : sz.bytes = 1 ∨ sz.bytes = 2 ∨ sz.bytes = 4 ∨ sz.bytes = 16 := by
  cases sz <;> simp [DataSize.bytes]

/-! ## Units -/

@[simp] theorem longBytes_length (v : Long) : (longBytes v).length = 4 := rfl

@[simp] theorem unitBytes_length (sz : DataSize) (v : Long) : (unitBytes sz v).length = sz.bytes := by
  cases sz <;> rfl

@[simp] theorem quadBytes_length (q : Vector Long 4) : (quadBytes q).length = 16 := by
  simp [quadBytes]

/-- What a write can do: it touches no ROM, and sets the bytes of the aligned unit. -/
theorem Memory.write_eq_some {m h : Memory} {n : Nat} {a : HubAddr} {bs : List Byte} :
    m.write n a bs = some h ↔ romEnd ≤ unitBase n a ∧ h = m.setBytes (unitBase n a) bs := by
  unfold Memory.write
  split
  · simp; omega
  · simp only [Option.some.injEq]
    constructor
    · rintro rfl
      exact ⟨by omega, rfl⟩
    · rintro ⟨-, rfl⟩
      rfl

theorem Memory.write_eq_none {m : Memory} {n : Nat} {a : HubAddr} {bs : List Byte} :
    m.write n a bs = none ↔ unitBase n a < romEnd := by
  unfold Memory.write
  split <;> simp_all

/-- A write keeps the canonical form. -/
theorem Memory.wf_write {m h : Memory} {n : Nat} {a : HubAddr} {bs : List Byte}
    (hn : n = 1 ∨ n = 2 ∨ n = 4 ∨ n = 16) (hl : bs.length = n) (hw : m.write n a bs = some h)
    (hm : m.wf = true) : h.wf = true := by
  obtain ⟨hr, rfl⟩ := Memory.write_eq_some.1 hw
  exact Memory.wf_setBytes _ _ _ hr (hl ▸ unitBase_add_le hn a) hm

/-- The writes of other cogs keep the canonical form. -/
theorem wf_applyWrites {es : List HubWrite} {m h : Memory} (hw : applyWrites es m = some h)
    (hm : m.wf = true) : h.wf = true := by
  induction es generalizing m with
  | nil =>
    cases hw
    exact hm
  | cons e es ih =>
    simp only [applyWrites] at hw
    split at hw
    · rename_i m' he
      refine ih hw ?_
      cases e with
      | unit sz a v => exact Memory.wf_write (dataSize_bytes_cases sz) (unitBytes_length sz v) he hm
      | quad a v => exact Memory.wf_write (.inr (.inr (.inr rfl))) (quadBytes_length v) he hm
    · cases hw

/-- A long is made of its four bytes. -/
theorem long_of_bytes (b3 b2 b1 b0 : Byte) (v : Long) :
    (b3 ++ b2 ++ b1 ++ b0 : Long) = v ↔ b0 = v.extractLsb' 0 8 ∧ b1 = v.extractLsb' 8 8 ∧
      b2 = v.extractLsb' 16 8 ∧ b3 = v.extractLsb' 24 8 := by
  constructor
  · rintro rfl
    refine ⟨?_, ?_, ?_, ?_⟩ <;>
      · apply BitVec.eq_of_getLsbD_eq
        intro i hi
        simp only [BitVec.getLsbD_extractLsb', BitVec.getLsbD_append]
        have h : i = 0 ∨ i = 1 ∨ i = 2 ∨ i = 3 ∨ i = 4 ∨ i = 5 ∨ i = 6 ∨ i = 7 := by omega
        rcases h with rfl | rfl | rfl | rfl | rfl | rfl | rfl | rfl <;> simp
  · rintro ⟨rfl, rfl, rfl, rfl⟩
    apply BitVec.eq_of_getLsbD_eq
    intro i hi
    simp only [BitVec.getLsbD_extractLsb', BitVec.getLsbD_append]
    split
    · simp_all
    · split
      · have : i - 8 < 8 := by omega
        simp [this]; congr 1; omega
      · split
        · have : i - 8 - 8 < 8 := by omega
          simp [this]; congr 1; omega
        · have : i - 8 - 8 - 8 < 8 := by omega
          simp [this]; congr 1; omega

/-- A word is made of its two bytes. -/
theorem word_of_bytes (b1 b0 : Byte) (v : BitVec 16) :
    (b1 ++ b0 : BitVec 16) = v ↔ b0 = v.extractLsb' 0 8 ∧ b1 = v.extractLsb' 8 8 := by
  constructor
  · rintro rfl
    refine ⟨?_, ?_⟩ <;>
      · apply BitVec.eq_of_getLsbD_eq
        intro i hi
        simp only [BitVec.getLsbD_extractLsb', BitVec.getLsbD_append]
        have h : i = 0 ∨ i = 1 ∨ i = 2 ∨ i = 3 ∨ i = 4 ∨ i = 5 ∨ i = 6 ∨ i = 7 := by omega
        rcases h with rfl | rfl | rfl | rfl | rfl | rfl | rfl | rfl <;> simp
  · rintro ⟨rfl, rfl⟩
    apply BitVec.eq_of_getLsbD_eq
    intro i hi
    simp only [BitVec.getLsbD_extractLsb', BitVec.getLsbD_append]
    split
    · simp_all
    · have : i - 8 < 8 := by omega
      simp [this]; congr 1; omega

/-- The bytes of a long at an address. -/
theorem Memory.longAt_eq_some {m : Memory} {b : Nat} {v : Long} :
    m.longAt b = some v ↔
      m.byte b = some (v.extractLsb' 0 8) ∧ m.byte (b + 1) = some (v.extractLsb' 8 8) ∧
      m.byte (b + 2) = some (v.extractLsb' 16 8) ∧ m.byte (b + 3) = some (v.extractLsb' 24 8) := by
  unfold Memory.longAt
  constructor
  · intro h
    split at h
    · rename_i b0 b1 b2 b3 h0 h1 h2 h3
      rw [h0, h1, h2, h3]
      obtain ⟨e0, e1, e2, e3⟩ := (long_of_bytes b3 b2 b1 b0 v).1 (Option.some.inj h)
      exact ⟨congrArg some e0, congrArg some e1, congrArg some e2, congrArg some e3⟩
    · cases h
  · rintro ⟨h0, h1, h2, h3⟩
    rw [h0, h1, h2, h3]
    exact congrArg some ((long_of_bytes _ _ _ _ v).2 ⟨rfl, rfl, rfl, rfl⟩)

/-- The bytes of a word at an address. -/
theorem Memory.wordAt_eq_some {m : Memory} {b : Nat} {v : BitVec 16} :
    m.wordAt b = some v ↔
      m.byte b = some (v.extractLsb' 0 8) ∧ m.byte (b + 1) = some (v.extractLsb' 8 8) := by
  unfold Memory.wordAt
  constructor
  · intro h
    split at h
    · rename_i b0 b1 h0 h1
      rw [h0, h1]
      obtain ⟨e0, e1⟩ := (word_of_bytes b1 b0 v).1 (Option.some.inj h)
      exact ⟨congrArg some e0, congrArg some e1⟩
    · cases h
  · rintro ⟨h0, h1⟩
    rw [h0, h1]
    exact congrArg some ((word_of_bytes _ _ v).2 ⟨rfl, rfl⟩)

/-- The longs of a quad at an address. -/
theorem Memory.quadAt_eq_some {m : Memory} {b : Nat} {q : Vector Long 4} :
    m.quadAt b = some q ↔ ∀ j : Fin 4, m.longAt (b + 4 * j.val) = some q[j] := by
  unfold Memory.quadAt
  constructor
  · intro h
    split at h
    · rename_i q0 q1 q2 q3 h0 h1 h2 h3
      cases h
      intro j
      match j with
      | 0 => exact h0
      | 1 => exact h1
      | 2 => exact h2
      | 3 => exact h3
    · cases h
  · intro h
    have h0 := h 0
    have h1 := h 1
    have h2 := h 2
    have h3 := h 3
    simp only [Fin.isValue, Fin.val_zero, Nat.mul_zero, Nat.add_zero, Fin.val_one, Nat.mul_one,
      Fin.val_two, show (3 : Fin 4).val = 3 from rfl, Nat.reduceMul] at h0 h1 h2 h3
    rw [h0, h1, h2, h3]
    simp only [Option.some.injEq]
    ext i hi
    match i, hi with
    | 0, _ => rfl
    | 1, _ => rfl
    | 2, _ => rfl
    | 3, _ => rfl

/-- A read whose bytes are the same in two memories gives the same. -/
theorem Memory.longAt_congr {m h : Memory} {b : Nat} (hb : ∀ k, k < 4 → h.byte (b + k) = m.byte (b + k)) :
    h.longAt b = m.longAt b := by
  have h0 := hb 0 (by decide)
  rw [Nat.add_zero] at h0
  unfold Memory.longAt
  rw [h0, hb 1 (by decide), hb 2 (by decide), hb 3 (by decide)]

theorem Memory.quadAt_congr {m h : Memory} {b : Nat} (hb : ∀ k, k < 16 → h.byte (b + k) = m.byte (b + k)) :
    h.quadAt b = m.quadAt b := by
  have hl : ∀ j, j ≤ 12 → h.longAt (b + j) = m.longAt (b + j) := fun j hj =>
    Memory.longAt_congr fun k hk => by rw [Nat.add_assoc]; exact hb _ (by omega)
  have h0 := hl 0 (by decide)
  rw [Nat.add_zero] at h0
  unfold Memory.quadAt
  rw [h0, hl 4 (by decide), hl 8 (by decide), hl 12 (by decide)]

/-- A long with an unknown byte has no value. -/
theorem Memory.longAt_of_unknown {m : Memory} {b k : Nat} (hk : k < 4) (h : m.byte (b + k) = none) :
    m.longAt b = none := by
  unfold Memory.longAt
  obtain rfl | rfl | rfl | rfl : k = 0 ∨ k = 1 ∨ k = 2 ∨ k = 3 := by omega
  · rw [show m.byte b = none from h]
  · rw [h]; cases m.byte b <;> rfl
  · rw [h]; cases m.byte b <;> cases m.byte (b + 1) <;> rfl
  · rw [h]; cases m.byte b <;> cases m.byte (b + 1) <;> cases m.byte (b + 2) <;> rfl

/-- A read of a unit with an unknown byte has no value. -/
theorem Memory.read_of_unknown {m : Memory} {sz : DataSize} {a : HubAddr} {k : Nat} (hk : k < sz.bytes)
    (h : m.byte (unitBase sz.bytes a + k) = none) : m.read sz a = none := by
  cases sz with
  | byte =>
    obtain rfl : k = 0 := by simp only [DataSize.bytes] at hk; omega
    simp [Memory.read, show m.byte (unitBase 1 a) = none from h]
  | word =>
    simp only [DataSize.bytes] at hk h
    simp only [Memory.read, Memory.wordAt]
    obtain rfl | rfl : k = 0 ∨ k = 1 := by omega
    · rw [Nat.add_zero] at h; rw [h]; rfl
    · rw [h]; cases m.byte (unitBase 2 a) <;> rfl
  | long => exact Memory.longAt_of_unknown hk h

/-- A read of a quad with an unknown byte has no value. -/
theorem Memory.readQuad_of_unknown {m : Memory} {a : HubAddr} {k : Nat} (hk : k < 16)
    (h : m.byte (unitBase 16 a + k) = none) : m.readQuad a = none := by
  have hl : m.longAt (unitBase 16 a + 4 * (k / 4)) = none :=
    Memory.longAt_of_unknown (Nat.mod_lt k (by decide)) (by
      rwa [show unitBase 16 a + 4 * (k / 4) + k % 4 = unitBase 16 a + k by omega])
  rw [Option.eq_none_iff_forall_ne_some]
  intro q hq
  have := Memory.quadAt_eq_some.1 hq ⟨k / 4, by omega⟩
  simp only [quadScale, hl] at this
  cases this

end Sys2Proof.Machine
end

