-- ==== Sys2Proof/Laws/State.lean ====
section
/-!
SUPPORT. What each update of the state leaves in each field: one lemma per field per update.
-/

namespace Sys2Proof.Machine

/-! ## setPc -/

@[simp] theorem State.setPc_regs (s : State) (t : TaskId) (a : CogAddr) : (s.setPc t a).regs = s.regs := rfl
@[simp] theorem State.setPc_quads (s : State) (t : TaskId) (a : CogAddr) : (s.setPc t a).quads = s.quads := rfl
@[simp] theorem State.setPc_qbase (s : State) (t : TaskId) (a : CogAddr) : (s.setPc t a).qbase = s.qbase := rfl
@[simp] theorem State.setPc_pcs (s : State) (t : TaskId) (a : CogAddr) : (s.setPc t a).pcs = s.pcs.set t.val a t.isLt := rfl
@[simp] theorem State.setPc_task (s : State) (t : TaskId) (a : CogAddr) : (s.setPc t a).task = s.task := rfl
@[simp] theorem State.setPc_ptra (s : State) (t : TaskId) (a : CogAddr) : (s.setPc t a).ptra = s.ptra := rfl
@[simp] theorem State.setPc_ptrb (s : State) (t : TaskId) (a : CogAddr) : (s.setPc t a).ptrb = s.ptrb := rfl
@[simp] theorem State.setPc_cv (s : State) (t : TaskId) (a : CogAddr) : (s.setPc t a).cv = s.cv := rfl
@[simp] theorem State.setPc_ctag (s : State) (t : TaskId) (a : CogAddr) : (s.setPc t a).ctag = s.ctag := rfl
@[simp] theorem State.setPc_flags (s : State) (t : TaskId) (a : CogAddr) : (s.setPc t a).flags = s.flags := rfl
@[simp] theorem State.setPc_pushPop (s : State) (t : TaskId) (a : CogAddr) : (s.setPc t a).pushPop = s.pushPop := rfl
@[simp] theorem State.setPc_out (s : State) (t : TaskId) (a : CogAddr) : (s.setPc t a).out = s.out := rfl
@[simp] theorem State.setPc_hub (s : State) (t : TaskId) (a : CogAddr) : (s.setPc t a).hub = s.hub := rfl
@[simp] theorem State.setPc_qds (s : State) (t : TaskId) (a : CogAddr) : (s.setPc t a).qds = s.qds := rfl
@[simp] theorem State.setPc_qex (s : State) (t : TaskId) (a : CogAddr) : (s.setPc t a).qex = s.qex := rfl
@[simp] theorem State.setPc_others (s : State) (t : TaskId) (a : CogAddr) : (s.setPc t a).others = s.others := rfl
@[simp] theorem State.setPc_windowWritten (s : State) (t : TaskId) (a : CogAddr) : (s.setPc t a).windowWritten = s.windowWritten := rfl
@[simp] theorem State.setPc_writtenAt (s : State) (t : TaskId) (a : CogAddr) : (s.setPc t a).writtenAt = s.writtenAt := rfl
@[simp] theorem State.setPc_quadWrittenAt (s : State) (t : TaskId) (a : CogAddr) : (s.setPc t a).quadWrittenAt = s.quadWrittenAt := rfl
@[simp] theorem State.setPc_steps (s : State) (t : TaskId) (a : CogAddr) : (s.setPc t a).steps = s.steps := rfl
@[simp] theorem State.setPc_draws (s : State) (t : TaskId) (a : CogAddr) : (s.setPc t a).draws = s.draws := rfl
@[simp] theorem State.setPc_params (s : State) (t : TaskId) (a : CogAddr) : (s.setPc t a).params = s.params := rfl

/-! ## setTask -/

@[simp] theorem State.setTask_regs (s : State) (v : BitVec 32) : (s.setTask v).regs = s.regs := rfl
@[simp] theorem State.setTask_quads (s : State) (v : BitVec 32) : (s.setTask v).quads = s.quads := rfl
@[simp] theorem State.setTask_qbase (s : State) (v : BitVec 32) : (s.setTask v).qbase = s.qbase := rfl
@[simp] theorem State.setTask_pcs (s : State) (v : BitVec 32) : (s.setTask v).pcs = s.pcs := rfl
@[simp] theorem State.setTask_task (s : State) (v : BitVec 32) : (s.setTask v).task = v := rfl
@[simp] theorem State.setTask_ptra (s : State) (v : BitVec 32) : (s.setTask v).ptra = s.ptra := rfl
@[simp] theorem State.setTask_ptrb (s : State) (v : BitVec 32) : (s.setTask v).ptrb = s.ptrb := rfl
@[simp] theorem State.setTask_cv (s : State) (v : BitVec 32) : (s.setTask v).cv = s.cv := rfl
@[simp] theorem State.setTask_ctag (s : State) (v : BitVec 32) : (s.setTask v).ctag = s.ctag := rfl
@[simp] theorem State.setTask_flags (s : State) (v : BitVec 32) : (s.setTask v).flags = s.flags := rfl
@[simp] theorem State.setTask_pushPop (s : State) (v : BitVec 32) : (s.setTask v).pushPop = s.pushPop := rfl
@[simp] theorem State.setTask_out (s : State) (v : BitVec 32) : (s.setTask v).out = s.out := rfl
@[simp] theorem State.setTask_hub (s : State) (v : BitVec 32) : (s.setTask v).hub = s.hub := rfl
@[simp] theorem State.setTask_qds (s : State) (v : BitVec 32) : (s.setTask v).qds = s.qds := rfl
@[simp] theorem State.setTask_qex (s : State) (v : BitVec 32) : (s.setTask v).qex = s.qex := rfl
@[simp] theorem State.setTask_others (s : State) (v : BitVec 32) : (s.setTask v).others = s.others := rfl
@[simp] theorem State.setTask_windowWritten (s : State) (v : BitVec 32) : (s.setTask v).windowWritten = s.windowWritten := rfl
@[simp] theorem State.setTask_writtenAt (s : State) (v : BitVec 32) : (s.setTask v).writtenAt = s.writtenAt := rfl
@[simp] theorem State.setTask_quadWrittenAt (s : State) (v : BitVec 32) : (s.setTask v).quadWrittenAt = s.quadWrittenAt := rfl
@[simp] theorem State.setTask_steps (s : State) (v : BitVec 32) : (s.setTask v).steps = s.steps := rfl
@[simp] theorem State.setTask_draws (s : State) (v : BitVec 32) : (s.setTask v).draws = s.draws := rfl
@[simp] theorem State.setTask_params (s : State) (v : BitVec 32) : (s.setTask v).params = s.params := rfl

/-! ## rotateTask -/

@[simp] theorem State.rotateTask_regs (s : State) : (s.rotateTask).regs = s.regs := rfl
@[simp] theorem State.rotateTask_quads (s : State) : (s.rotateTask).quads = s.quads := rfl
@[simp] theorem State.rotateTask_qbase (s : State) : (s.rotateTask).qbase = s.qbase := rfl
@[simp] theorem State.rotateTask_pcs (s : State) : (s.rotateTask).pcs = s.pcs := rfl
@[simp] theorem State.rotateTask_task (s : State) : (s.rotateTask).task = s.task.rotateRight 2 := rfl
@[simp] theorem State.rotateTask_ptra (s : State) : (s.rotateTask).ptra = s.ptra := rfl
@[simp] theorem State.rotateTask_ptrb (s : State) : (s.rotateTask).ptrb = s.ptrb := rfl
@[simp] theorem State.rotateTask_cv (s : State) : (s.rotateTask).cv = s.cv := rfl
@[simp] theorem State.rotateTask_ctag (s : State) : (s.rotateTask).ctag = s.ctag := rfl
@[simp] theorem State.rotateTask_flags (s : State) : (s.rotateTask).flags = s.flags := rfl
@[simp] theorem State.rotateTask_pushPop (s : State) : (s.rotateTask).pushPop = s.pushPop := rfl
@[simp] theorem State.rotateTask_out (s : State) : (s.rotateTask).out = s.out := rfl
@[simp] theorem State.rotateTask_hub (s : State) : (s.rotateTask).hub = s.hub := rfl
@[simp] theorem State.rotateTask_qds (s : State) : (s.rotateTask).qds = s.qds := rfl
@[simp] theorem State.rotateTask_qex (s : State) : (s.rotateTask).qex = s.qex := rfl
@[simp] theorem State.rotateTask_others (s : State) : (s.rotateTask).others = s.others := rfl
@[simp] theorem State.rotateTask_windowWritten (s : State) : (s.rotateTask).windowWritten = s.windowWritten := rfl
@[simp] theorem State.rotateTask_writtenAt (s : State) : (s.rotateTask).writtenAt = s.writtenAt := rfl
@[simp] theorem State.rotateTask_quadWrittenAt (s : State) : (s.rotateTask).quadWrittenAt = s.quadWrittenAt := rfl
@[simp] theorem State.rotateTask_steps (s : State) : (s.rotateTask).steps = s.steps := rfl
@[simp] theorem State.rotateTask_draws (s : State) : (s.rotateTask).draws = s.draws := rfl
@[simp] theorem State.rotateTask_params (s : State) : (s.rotateTask).params = s.params := rfl

/-! ## blurShadow -/

@[simp] theorem State.blurShadow_quads (s : State) : (s.blurShadow).quads = s.quads := rfl
@[simp] theorem State.blurShadow_qbase (s : State) : (s.blurShadow).qbase = s.qbase := rfl
@[simp] theorem State.blurShadow_pcs (s : State) : (s.blurShadow).pcs = s.pcs := rfl
@[simp] theorem State.blurShadow_task (s : State) : (s.blurShadow).task = s.task := rfl
@[simp] theorem State.blurShadow_ptra (s : State) : (s.blurShadow).ptra = s.ptra := rfl
@[simp] theorem State.blurShadow_ptrb (s : State) : (s.blurShadow).ptrb = s.ptrb := rfl
@[simp] theorem State.blurShadow_cv (s : State) : (s.blurShadow).cv = s.cv := rfl
@[simp] theorem State.blurShadow_ctag (s : State) : (s.blurShadow).ctag = s.ctag := rfl
@[simp] theorem State.blurShadow_flags (s : State) : (s.blurShadow).flags = s.flags := rfl
@[simp] theorem State.blurShadow_pushPop (s : State) : (s.blurShadow).pushPop = s.pushPop := rfl
@[simp] theorem State.blurShadow_out (s : State) : (s.blurShadow).out = s.out := rfl
@[simp] theorem State.blurShadow_hub (s : State) : (s.blurShadow).hub = s.hub := rfl
@[simp] theorem State.blurShadow_qds (s : State) : (s.blurShadow).qds = s.qds := rfl
@[simp] theorem State.blurShadow_qex (s : State) : (s.blurShadow).qex = s.qex := rfl
@[simp] theorem State.blurShadow_others (s : State) : (s.blurShadow).others = s.others := rfl
@[simp] theorem State.blurShadow_windowWritten (s : State) : (s.blurShadow).windowWritten = s.windowWritten := rfl
@[simp] theorem State.blurShadow_quadWrittenAt (s : State) : (s.blurShadow).quadWrittenAt = s.quadWrittenAt := rfl
@[simp] theorem State.blurShadow_steps (s : State) : (s.blurShadow).steps = s.steps := rfl
@[simp] theorem State.blurShadow_draws (s : State) : (s.blurShadow).draws = s.draws + 4 := rfl
@[simp] theorem State.blurShadow_params (s : State) : (s.blurShadow).params = s.params := rfl

/-! ## setQuad -/

@[simp] theorem State.setQuad_regs (s : State) (k : Fin 4) (v : Long) : (s.setQuad k v).regs = s.regs := rfl
@[simp] theorem State.setQuad_quads (s : State) (k : Fin 4) (v : Long) : (s.setQuad k v).quads = s.quads.set k.val v k.isLt := rfl
@[simp] theorem State.setQuad_qbase (s : State) (k : Fin 4) (v : Long) : (s.setQuad k v).qbase = s.qbase := rfl
@[simp] theorem State.setQuad_pcs (s : State) (k : Fin 4) (v : Long) : (s.setQuad k v).pcs = s.pcs := rfl
@[simp] theorem State.setQuad_task (s : State) (k : Fin 4) (v : Long) : (s.setQuad k v).task = s.task := rfl
@[simp] theorem State.setQuad_ptra (s : State) (k : Fin 4) (v : Long) : (s.setQuad k v).ptra = s.ptra := rfl
@[simp] theorem State.setQuad_ptrb (s : State) (k : Fin 4) (v : Long) : (s.setQuad k v).ptrb = s.ptrb := rfl
@[simp] theorem State.setQuad_cv (s : State) (k : Fin 4) (v : Long) : (s.setQuad k v).cv = s.cv := rfl
@[simp] theorem State.setQuad_ctag (s : State) (k : Fin 4) (v : Long) : (s.setQuad k v).ctag = s.ctag := rfl
@[simp] theorem State.setQuad_flags (s : State) (k : Fin 4) (v : Long) : (s.setQuad k v).flags = s.flags := rfl
@[simp] theorem State.setQuad_pushPop (s : State) (k : Fin 4) (v : Long) : (s.setQuad k v).pushPop = s.pushPop := rfl
@[simp] theorem State.setQuad_out (s : State) (k : Fin 4) (v : Long) : (s.setQuad k v).out = s.out := rfl
@[simp] theorem State.setQuad_hub (s : State) (k : Fin 4) (v : Long) : (s.setQuad k v).hub = s.hub := rfl
@[simp] theorem State.setQuad_qds (s : State) (k : Fin 4) (v : Long) : (s.setQuad k v).qds = s.qds := rfl
@[simp] theorem State.setQuad_qex (s : State) (k : Fin 4) (v : Long) : (s.setQuad k v).qex = s.qex := rfl
@[simp] theorem State.setQuad_others (s : State) (k : Fin 4) (v : Long) : (s.setQuad k v).others = s.others := rfl
@[simp] theorem State.setQuad_windowWritten (s : State) (k : Fin 4) (v : Long) : (s.setQuad k v).windowWritten = s.windowWritten := rfl
@[simp] theorem State.setQuad_writtenAt (s : State) (k : Fin 4) (v : Long) : (s.setQuad k v).writtenAt = s.writtenAt := rfl
@[simp] theorem State.setQuad_quadWrittenAt (s : State) (k : Fin 4) (v : Long) : (s.setQuad k v).quadWrittenAt = s.quadWrittenAt.set k.val (some s.steps) k.isLt := rfl
@[simp] theorem State.setQuad_steps (s : State) (k : Fin 4) (v : Long) : (s.setQuad k v).steps = s.steps := rfl
@[simp] theorem State.setQuad_draws (s : State) (k : Fin 4) (v : Long) : (s.setQuad k v).draws = s.draws := rfl
@[simp] theorem State.setQuad_params (s : State) (k : Fin 4) (v : Long) : (s.setQuad k v).params = s.params := rfl

/-! ## setReg -/

@[simp] theorem State.setReg_regs (s : State) (a : CogAddr) (v : Long) : (s.setReg a v).regs = s.regs.set a.toNat (.long v) a.isLt := rfl
@[simp] theorem State.setReg_quads (s : State) (a : CogAddr) (v : Long) : (s.setReg a v).quads = s.quads := rfl
@[simp] theorem State.setReg_qbase (s : State) (a : CogAddr) (v : Long) : (s.setReg a v).qbase = s.qbase := rfl
@[simp] theorem State.setReg_pcs (s : State) (a : CogAddr) (v : Long) : (s.setReg a v).pcs = s.pcs := rfl
@[simp] theorem State.setReg_task (s : State) (a : CogAddr) (v : Long) : (s.setReg a v).task = s.task := rfl
@[simp] theorem State.setReg_ptra (s : State) (a : CogAddr) (v : Long) : (s.setReg a v).ptra = s.ptra := rfl
@[simp] theorem State.setReg_ptrb (s : State) (a : CogAddr) (v : Long) : (s.setReg a v).ptrb = s.ptrb := rfl
@[simp] theorem State.setReg_cv (s : State) (a : CogAddr) (v : Long) : (s.setReg a v).cv = s.cv := rfl
@[simp] theorem State.setReg_ctag (s : State) (a : CogAddr) (v : Long) : (s.setReg a v).ctag = s.ctag := rfl
@[simp] theorem State.setReg_flags (s : State) (a : CogAddr) (v : Long) : (s.setReg a v).flags = s.flags := rfl
@[simp] theorem State.setReg_pushPop (s : State) (a : CogAddr) (v : Long) : (s.setReg a v).pushPop = s.pushPop := rfl
@[simp] theorem State.setReg_out (s : State) (a : CogAddr) (v : Long) : (s.setReg a v).out = s.out := rfl
@[simp] theorem State.setReg_hub (s : State) (a : CogAddr) (v : Long) : (s.setReg a v).hub = s.hub := rfl
@[simp] theorem State.setReg_qds (s : State) (a : CogAddr) (v : Long) : (s.setReg a v).qds = s.qds := rfl
@[simp] theorem State.setReg_qex (s : State) (a : CogAddr) (v : Long) : (s.setReg a v).qex = s.qex := rfl
@[simp] theorem State.setReg_others (s : State) (a : CogAddr) (v : Long) : (s.setReg a v).others = s.others := rfl
@[simp] theorem State.setReg_windowWritten (s : State) (a : CogAddr) (v : Long) : (s.setReg a v).windowWritten = s.windowWritten := rfl
@[simp] theorem State.setReg_writtenAt (s : State) (a : CogAddr) (v : Long) : (s.setReg a v).writtenAt = s.writtenAt.set a.toNat (some s.steps) a.isLt := rfl
@[simp] theorem State.setReg_quadWrittenAt (s : State) (a : CogAddr) (v : Long) : (s.setReg a v).quadWrittenAt = s.quadWrittenAt := rfl
@[simp] theorem State.setReg_steps (s : State) (a : CogAddr) (v : Long) : (s.setReg a v).steps = s.steps := rfl
@[simp] theorem State.setReg_draws (s : State) (a : CogAddr) (v : Long) : (s.setReg a v).draws = s.draws := rfl
@[simp] theorem State.setReg_params (s : State) (a : CogAddr) (v : Long) : (s.setReg a v).params = s.params := rfl

/-! ## loadQuads -/

@[simp] theorem State.loadQuads_regs (s : State) (q : Vector Long 4) (b : Bool) (w : WindowTag) : (s.loadQuads q b w).regs = s.regs := rfl
@[simp] theorem State.loadQuads_quads (s : State) (q : Vector Long 4) (b : Bool) (w : WindowTag) : (s.loadQuads q b w).quads = q := rfl
@[simp] theorem State.loadQuads_qbase (s : State) (q : Vector Long 4) (b : Bool) (w : WindowTag) : (s.loadQuads q b w).qbase = s.qbase := rfl
@[simp] theorem State.loadQuads_pcs (s : State) (q : Vector Long 4) (b : Bool) (w : WindowTag) : (s.loadQuads q b w).pcs = s.pcs := rfl
@[simp] theorem State.loadQuads_task (s : State) (q : Vector Long 4) (b : Bool) (w : WindowTag) : (s.loadQuads q b w).task = s.task := rfl
@[simp] theorem State.loadQuads_ptra (s : State) (q : Vector Long 4) (b : Bool) (w : WindowTag) : (s.loadQuads q b w).ptra = s.ptra := rfl
@[simp] theorem State.loadQuads_ptrb (s : State) (q : Vector Long 4) (b : Bool) (w : WindowTag) : (s.loadQuads q b w).ptrb = s.ptrb := rfl
@[simp] theorem State.loadQuads_cv (s : State) (q : Vector Long 4) (b : Bool) (w : WindowTag) : (s.loadQuads q b w).cv = b := rfl
@[simp] theorem State.loadQuads_ctag (s : State) (q : Vector Long 4) (b : Bool) (w : WindowTag) : (s.loadQuads q b w).ctag = w := rfl
@[simp] theorem State.loadQuads_flags (s : State) (q : Vector Long 4) (b : Bool) (w : WindowTag) : (s.loadQuads q b w).flags = s.flags := rfl
@[simp] theorem State.loadQuads_pushPop (s : State) (q : Vector Long 4) (b : Bool) (w : WindowTag) : (s.loadQuads q b w).pushPop = s.pushPop := rfl
@[simp] theorem State.loadQuads_out (s : State) (q : Vector Long 4) (b : Bool) (w : WindowTag) : (s.loadQuads q b w).out = s.out := rfl
@[simp] theorem State.loadQuads_hub (s : State) (q : Vector Long 4) (b : Bool) (w : WindowTag) : (s.loadQuads q b w).hub = s.hub := rfl
@[simp] theorem State.loadQuads_qds (s : State) (q : Vector Long 4) (b : Bool) (w : WindowTag) : (s.loadQuads q b w).qds = 3 := rfl
@[simp] theorem State.loadQuads_qex (s : State) (q : Vector Long 4) (b : Bool) (w : WindowTag) : (s.loadQuads q b w).qex = 5 := rfl
@[simp] theorem State.loadQuads_others (s : State) (q : Vector Long 4) (b : Bool) (w : WindowTag) : (s.loadQuads q b w).others = s.others := rfl
@[simp] theorem State.loadQuads_windowWritten (s : State) (q : Vector Long 4) (b : Bool) (w : WindowTag) : (s.loadQuads q b w).windowWritten = false := rfl
@[simp] theorem State.loadQuads_writtenAt (s : State) (q : Vector Long 4) (b : Bool) (w : WindowTag) : (s.loadQuads q b w).writtenAt = s.writtenAt := rfl
@[simp] theorem State.loadQuads_quadWrittenAt (s : State) (q : Vector Long 4) (b : Bool) (w : WindowTag) : (s.loadQuads q b w).quadWrittenAt = Vector.replicate 4 none := rfl
@[simp] theorem State.loadQuads_steps (s : State) (q : Vector Long 4) (b : Bool) (w : WindowTag) : (s.loadQuads q b w).steps = s.steps := rfl
@[simp] theorem State.loadQuads_draws (s : State) (q : Vector Long 4) (b : Bool) (w : WindowTag) : (s.loadQuads q b w).draws = s.draws := rfl
@[simp] theorem State.loadQuads_params (s : State) (q : Vector Long 4) (b : Bool) (w : WindowTag) : (s.loadQuads q b w).params = s.params := rfl

/-! ## invalidate -/

@[simp] theorem State.invalidate_regs (s : State) : (s.invalidate).regs = s.regs := rfl
@[simp] theorem State.invalidate_quads (s : State) : (s.invalidate).quads = s.quads := rfl
@[simp] theorem State.invalidate_qbase (s : State) : (s.invalidate).qbase = s.qbase := rfl
@[simp] theorem State.invalidate_pcs (s : State) : (s.invalidate).pcs = s.pcs := rfl
@[simp] theorem State.invalidate_task (s : State) : (s.invalidate).task = s.task := rfl
@[simp] theorem State.invalidate_ptra (s : State) : (s.invalidate).ptra = s.ptra := rfl
@[simp] theorem State.invalidate_ptrb (s : State) : (s.invalidate).ptrb = s.ptrb := rfl
@[simp] theorem State.invalidate_cv (s : State) : (s.invalidate).cv = false := rfl
@[simp] theorem State.invalidate_ctag (s : State) : (s.invalidate).ctag = s.ctag := rfl
@[simp] theorem State.invalidate_flags (s : State) : (s.invalidate).flags = s.flags := rfl
@[simp] theorem State.invalidate_pushPop (s : State) : (s.invalidate).pushPop = s.pushPop := rfl
@[simp] theorem State.invalidate_out (s : State) : (s.invalidate).out = s.out := rfl
@[simp] theorem State.invalidate_hub (s : State) : (s.invalidate).hub = s.hub := rfl
@[simp] theorem State.invalidate_qds (s : State) : (s.invalidate).qds = s.qds := rfl
@[simp] theorem State.invalidate_qex (s : State) : (s.invalidate).qex = s.qex := rfl
@[simp] theorem State.invalidate_others (s : State) : (s.invalidate).others = s.others := rfl
@[simp] theorem State.invalidate_windowWritten (s : State) : (s.invalidate).windowWritten = s.windowWritten := rfl
@[simp] theorem State.invalidate_writtenAt (s : State) : (s.invalidate).writtenAt = s.writtenAt := rfl
@[simp] theorem State.invalidate_quadWrittenAt (s : State) : (s.invalidate).quadWrittenAt = s.quadWrittenAt := rfl
@[simp] theorem State.invalidate_steps (s : State) : (s.invalidate).steps = s.steps := rfl
@[simp] theorem State.invalidate_draws (s : State) : (s.invalidate).draws = s.draws := rfl
@[simp] theorem State.invalidate_params (s : State) : (s.invalidate).params = s.params := rfl

/-! ## setQbase -/

@[simp] theorem State.setQbase_regs (s : State) (v : BitVec 9) : (s.setQbase v).regs = s.regs := rfl
@[simp] theorem State.setQbase_quads (s : State) (v : BitVec 9) : (s.setQbase v).quads = s.quads := rfl
@[simp] theorem State.setQbase_qbase (s : State) (v : BitVec 9) : (s.setQbase v).qbase = v := rfl
@[simp] theorem State.setQbase_pcs (s : State) (v : BitVec 9) : (s.setQbase v).pcs = s.pcs := rfl
@[simp] theorem State.setQbase_task (s : State) (v : BitVec 9) : (s.setQbase v).task = s.task := rfl
@[simp] theorem State.setQbase_ptra (s : State) (v : BitVec 9) : (s.setQbase v).ptra = s.ptra := rfl
@[simp] theorem State.setQbase_ptrb (s : State) (v : BitVec 9) : (s.setQbase v).ptrb = s.ptrb := rfl
@[simp] theorem State.setQbase_cv (s : State) (v : BitVec 9) : (s.setQbase v).cv = s.cv := rfl
@[simp] theorem State.setQbase_ctag (s : State) (v : BitVec 9) : (s.setQbase v).ctag = s.ctag := rfl
@[simp] theorem State.setQbase_flags (s : State) (v : BitVec 9) : (s.setQbase v).flags = s.flags := rfl
@[simp] theorem State.setQbase_pushPop (s : State) (v : BitVec 9) : (s.setQbase v).pushPop = s.pushPop := rfl
@[simp] theorem State.setQbase_out (s : State) (v : BitVec 9) : (s.setQbase v).out = s.out := rfl
@[simp] theorem State.setQbase_hub (s : State) (v : BitVec 9) : (s.setQbase v).hub = s.hub := rfl
@[simp] theorem State.setQbase_qds (s : State) (v : BitVec 9) : (s.setQbase v).qds = s.qds := rfl
@[simp] theorem State.setQbase_qex (s : State) (v : BitVec 9) : (s.setQbase v).qex = s.qex := rfl
@[simp] theorem State.setQbase_others (s : State) (v : BitVec 9) : (s.setQbase v).others = s.others := rfl
@[simp] theorem State.setQbase_windowWritten (s : State) (v : BitVec 9) : (s.setQbase v).windowWritten = s.windowWritten := rfl
@[simp] theorem State.setQbase_writtenAt (s : State) (v : BitVec 9) : (s.setQbase v).writtenAt = s.writtenAt := rfl
@[simp] theorem State.setQbase_quadWrittenAt (s : State) (v : BitVec 9) : (s.setQbase v).quadWrittenAt = s.quadWrittenAt := rfl
@[simp] theorem State.setQbase_steps (s : State) (v : BitVec 9) : (s.setQbase v).steps = s.steps := rfl
@[simp] theorem State.setQbase_draws (s : State) (v : BitVec 9) : (s.setQbase v).draws = s.draws := rfl
@[simp] theorem State.setQbase_params (s : State) (v : BitVec 9) : (s.setQbase v).params = s.params := rfl

/-! ## togglePin -/

@[simp] theorem State.togglePin_regs (s : State) (n : Nat) : (s.togglePin n).regs = s.regs := rfl
@[simp] theorem State.togglePin_quads (s : State) (n : Nat) : (s.togglePin n).quads = s.quads := rfl
@[simp] theorem State.togglePin_qbase (s : State) (n : Nat) : (s.togglePin n).qbase = s.qbase := rfl
@[simp] theorem State.togglePin_pcs (s : State) (n : Nat) : (s.togglePin n).pcs = s.pcs := rfl
@[simp] theorem State.togglePin_task (s : State) (n : Nat) : (s.togglePin n).task = s.task := rfl
@[simp] theorem State.togglePin_ptra (s : State) (n : Nat) : (s.togglePin n).ptra = s.ptra := rfl
@[simp] theorem State.togglePin_ptrb (s : State) (n : Nat) : (s.togglePin n).ptrb = s.ptrb := rfl
@[simp] theorem State.togglePin_cv (s : State) (n : Nat) : (s.togglePin n).cv = s.cv := rfl
@[simp] theorem State.togglePin_ctag (s : State) (n : Nat) : (s.togglePin n).ctag = s.ctag := rfl
@[simp] theorem State.togglePin_flags (s : State) (n : Nat) : (s.togglePin n).flags = s.flags := rfl
@[simp] theorem State.togglePin_pushPop (s : State) (n : Nat) : (s.togglePin n).pushPop = s.pushPop := rfl
@[simp] theorem State.togglePin_out (s : State) (n : Nat) : (s.togglePin n).out = s.out ^^^ 2 ^ n := rfl
@[simp] theorem State.togglePin_hub (s : State) (n : Nat) : (s.togglePin n).hub = s.hub := rfl
@[simp] theorem State.togglePin_qds (s : State) (n : Nat) : (s.togglePin n).qds = s.qds := rfl
@[simp] theorem State.togglePin_qex (s : State) (n : Nat) : (s.togglePin n).qex = s.qex := rfl
@[simp] theorem State.togglePin_others (s : State) (n : Nat) : (s.togglePin n).others = s.others := rfl
@[simp] theorem State.togglePin_windowWritten (s : State) (n : Nat) : (s.togglePin n).windowWritten = s.windowWritten := rfl
@[simp] theorem State.togglePin_writtenAt (s : State) (n : Nat) : (s.togglePin n).writtenAt = s.writtenAt := rfl
@[simp] theorem State.togglePin_quadWrittenAt (s : State) (n : Nat) : (s.togglePin n).quadWrittenAt = s.quadWrittenAt := rfl
@[simp] theorem State.togglePin_steps (s : State) (n : Nat) : (s.togglePin n).steps = s.steps := rfl
@[simp] theorem State.togglePin_draws (s : State) (n : Nat) : (s.togglePin n).draws = s.draws := rfl
@[simp] theorem State.togglePin_params (s : State) (n : Nat) : (s.togglePin n).params = s.params := rfl

/-! ## tick -/

@[simp] theorem State.tick_regs (s : State) : (s.tick).regs = s.regs := rfl
@[simp] theorem State.tick_quads (s : State) : (s.tick).quads = s.quads := rfl
@[simp] theorem State.tick_qbase (s : State) : (s.tick).qbase = s.qbase := rfl
@[simp] theorem State.tick_pcs (s : State) : (s.tick).pcs = s.pcs := rfl
@[simp] theorem State.tick_task (s : State) : (s.tick).task = s.task := rfl
@[simp] theorem State.tick_ptra (s : State) : (s.tick).ptra = s.ptra := rfl
@[simp] theorem State.tick_ptrb (s : State) : (s.tick).ptrb = s.ptrb := rfl
@[simp] theorem State.tick_cv (s : State) : (s.tick).cv = s.cv := rfl
@[simp] theorem State.tick_ctag (s : State) : (s.tick).ctag = s.ctag := rfl
@[simp] theorem State.tick_flags (s : State) : (s.tick).flags = s.flags := rfl
@[simp] theorem State.tick_pushPop (s : State) : (s.tick).pushPop = s.pushPop := rfl
@[simp] theorem State.tick_out (s : State) : (s.tick).out = s.out := rfl
@[simp] theorem State.tick_hub (s : State) : (s.tick).hub = s.hub := rfl
@[simp] theorem State.tick_qds (s : State) : (s.tick).qds = s.qds - 1 := rfl
@[simp] theorem State.tick_qex (s : State) : (s.tick).qex = s.qex - 1 := rfl
@[simp] theorem State.tick_others (s : State) : (s.tick).others = s.others := rfl
@[simp] theorem State.tick_windowWritten (s : State) : (s.tick).windowWritten = s.windowWritten := rfl
@[simp] theorem State.tick_writtenAt (s : State) : (s.tick).writtenAt = s.writtenAt := rfl
@[simp] theorem State.tick_quadWrittenAt (s : State) : (s.tick).quadWrittenAt = s.quadWrittenAt := rfl
@[simp] theorem State.tick_steps (s : State) : (s.tick).steps = s.steps + 1 := rfl
@[simp] theorem State.tick_draws (s : State) : (s.tick).draws = s.draws := rfl
@[simp] theorem State.tick_params (s : State) : (s.tick).params = s.params := rfl

/-! ## advance -/

@[simp] theorem State.advance_regs (s : State) : (s.advance).regs = s.regs := rfl
@[simp] theorem State.advance_quads (s : State) : (s.advance).quads = s.quads := rfl
@[simp] theorem State.advance_qbase (s : State) : (s.advance).qbase = s.qbase := rfl
@[simp] theorem State.advance_pcs (s : State) : (s.advance).pcs = s.pcs.set s.currentTask.val (s.pc + 1#9) s.currentTask.isLt := rfl
@[simp] theorem State.advance_task (s : State) : (s.advance).task = s.task := rfl
@[simp] theorem State.advance_ptra (s : State) : (s.advance).ptra = s.ptra := rfl
@[simp] theorem State.advance_ptrb (s : State) : (s.advance).ptrb = s.ptrb := rfl
@[simp] theorem State.advance_cv (s : State) : (s.advance).cv = s.cv := rfl
@[simp] theorem State.advance_ctag (s : State) : (s.advance).ctag = s.ctag := rfl
@[simp] theorem State.advance_flags (s : State) : (s.advance).flags = s.flags := rfl
@[simp] theorem State.advance_pushPop (s : State) : (s.advance).pushPop = s.pushPop := rfl
@[simp] theorem State.advance_out (s : State) : (s.advance).out = s.out := rfl
@[simp] theorem State.advance_hub (s : State) : (s.advance).hub = s.hub := rfl
@[simp] theorem State.advance_qds (s : State) : (s.advance).qds = s.qds := rfl
@[simp] theorem State.advance_qex (s : State) : (s.advance).qex = s.qex := rfl
@[simp] theorem State.advance_others (s : State) : (s.advance).others = s.others := rfl
@[simp] theorem State.advance_windowWritten (s : State) : (s.advance).windowWritten = s.windowWritten := rfl
@[simp] theorem State.advance_writtenAt (s : State) : (s.advance).writtenAt = s.writtenAt := rfl
@[simp] theorem State.advance_quadWrittenAt (s : State) : (s.advance).quadWrittenAt = s.quadWrittenAt := rfl
@[simp] theorem State.advance_steps (s : State) : (s.advance).steps = s.steps := rfl
@[simp] theorem State.advance_draws (s : State) : (s.advance).draws = s.draws := rfl
@[simp] theorem State.advance_params (s : State) : (s.advance).params = s.params := rfl

/-! ## setFlagPair -/

@[simp] theorem State.setFlagPair_regs (s : State) (p : FlagPair) : (s.setFlagPair p).regs = s.regs := rfl
@[simp] theorem State.setFlagPair_quads (s : State) (p : FlagPair) : (s.setFlagPair p).quads = s.quads := rfl
@[simp] theorem State.setFlagPair_qbase (s : State) (p : FlagPair) : (s.setFlagPair p).qbase = s.qbase := rfl
@[simp] theorem State.setFlagPair_pcs (s : State) (p : FlagPair) : (s.setFlagPair p).pcs = s.pcs := rfl
@[simp] theorem State.setFlagPair_task (s : State) (p : FlagPair) : (s.setFlagPair p).task = s.task := rfl
@[simp] theorem State.setFlagPair_ptra (s : State) (p : FlagPair) : (s.setFlagPair p).ptra = s.ptra := rfl
@[simp] theorem State.setFlagPair_ptrb (s : State) (p : FlagPair) : (s.setFlagPair p).ptrb = s.ptrb := rfl
@[simp] theorem State.setFlagPair_cv (s : State) (p : FlagPair) : (s.setFlagPair p).cv = s.cv := rfl
@[simp] theorem State.setFlagPair_ctag (s : State) (p : FlagPair) : (s.setFlagPair p).ctag = s.ctag := rfl
@[simp] theorem State.setFlagPair_flags (s : State) (p : FlagPair) : (s.setFlagPair p).flags = s.flags.set s.flagIndex.val p s.flagIndex.isLt := rfl
@[simp] theorem State.setFlagPair_pushPop (s : State) (p : FlagPair) : (s.setFlagPair p).pushPop = s.pushPop := rfl
@[simp] theorem State.setFlagPair_out (s : State) (p : FlagPair) : (s.setFlagPair p).out = s.out := rfl
@[simp] theorem State.setFlagPair_hub (s : State) (p : FlagPair) : (s.setFlagPair p).hub = s.hub := rfl
@[simp] theorem State.setFlagPair_qds (s : State) (p : FlagPair) : (s.setFlagPair p).qds = s.qds := rfl
@[simp] theorem State.setFlagPair_qex (s : State) (p : FlagPair) : (s.setFlagPair p).qex = s.qex := rfl
@[simp] theorem State.setFlagPair_others (s : State) (p : FlagPair) : (s.setFlagPair p).others = s.others := rfl
@[simp] theorem State.setFlagPair_windowWritten (s : State) (p : FlagPair) : (s.setFlagPair p).windowWritten = s.windowWritten := rfl
@[simp] theorem State.setFlagPair_writtenAt (s : State) (p : FlagPair) : (s.setFlagPair p).writtenAt = s.writtenAt := rfl
@[simp] theorem State.setFlagPair_quadWrittenAt (s : State) (p : FlagPair) : (s.setFlagPair p).quadWrittenAt = s.quadWrittenAt := rfl
@[simp] theorem State.setFlagPair_steps (s : State) (p : FlagPair) : (s.setFlagPair p).steps = s.steps := rfl
@[simp] theorem State.setFlagPair_draws (s : State) (p : FlagPair) : (s.setFlagPair p).draws = s.draws := rfl
@[simp] theorem State.setFlagPair_params (s : State) (p : FlagPair) : (s.setFlagPair p).params = s.params := rfl

/-! ## setZ -/

@[simp] theorem State.setZ_regs (s : State) (b : Bool) : (s.setZ b).regs = s.regs := rfl
@[simp] theorem State.setZ_quads (s : State) (b : Bool) : (s.setZ b).quads = s.quads := rfl
@[simp] theorem State.setZ_qbase (s : State) (b : Bool) : (s.setZ b).qbase = s.qbase := rfl
@[simp] theorem State.setZ_pcs (s : State) (b : Bool) : (s.setZ b).pcs = s.pcs := rfl
@[simp] theorem State.setZ_task (s : State) (b : Bool) : (s.setZ b).task = s.task := rfl
@[simp] theorem State.setZ_ptra (s : State) (b : Bool) : (s.setZ b).ptra = s.ptra := rfl
@[simp] theorem State.setZ_ptrb (s : State) (b : Bool) : (s.setZ b).ptrb = s.ptrb := rfl
@[simp] theorem State.setZ_cv (s : State) (b : Bool) : (s.setZ b).cv = s.cv := rfl
@[simp] theorem State.setZ_ctag (s : State) (b : Bool) : (s.setZ b).ctag = s.ctag := rfl
@[simp] theorem State.setZ_pushPop (s : State) (b : Bool) : (s.setZ b).pushPop = s.pushPop := rfl
@[simp] theorem State.setZ_out (s : State) (b : Bool) : (s.setZ b).out = s.out := rfl
@[simp] theorem State.setZ_hub (s : State) (b : Bool) : (s.setZ b).hub = s.hub := rfl
@[simp] theorem State.setZ_qds (s : State) (b : Bool) : (s.setZ b).qds = s.qds := rfl
@[simp] theorem State.setZ_qex (s : State) (b : Bool) : (s.setZ b).qex = s.qex := rfl
@[simp] theorem State.setZ_others (s : State) (b : Bool) : (s.setZ b).others = s.others := rfl
@[simp] theorem State.setZ_windowWritten (s : State) (b : Bool) : (s.setZ b).windowWritten = s.windowWritten := rfl
@[simp] theorem State.setZ_writtenAt (s : State) (b : Bool) : (s.setZ b).writtenAt = s.writtenAt := rfl
@[simp] theorem State.setZ_quadWrittenAt (s : State) (b : Bool) : (s.setZ b).quadWrittenAt = s.quadWrittenAt := rfl
@[simp] theorem State.setZ_steps (s : State) (b : Bool) : (s.setZ b).steps = s.steps := rfl
@[simp] theorem State.setZ_draws (s : State) (b : Bool) : (s.setZ b).draws = s.draws := rfl
@[simp] theorem State.setZ_params (s : State) (b : Bool) : (s.setZ b).params = s.params := rfl

/-! ## setC -/

@[simp] theorem State.setC_regs (s : State) (b : Bool) : (s.setC b).regs = s.regs := rfl
@[simp] theorem State.setC_quads (s : State) (b : Bool) : (s.setC b).quads = s.quads := rfl
@[simp] theorem State.setC_qbase (s : State) (b : Bool) : (s.setC b).qbase = s.qbase := rfl
@[simp] theorem State.setC_pcs (s : State) (b : Bool) : (s.setC b).pcs = s.pcs := rfl
@[simp] theorem State.setC_task (s : State) (b : Bool) : (s.setC b).task = s.task := rfl
@[simp] theorem State.setC_ptra (s : State) (b : Bool) : (s.setC b).ptra = s.ptra := rfl
@[simp] theorem State.setC_ptrb (s : State) (b : Bool) : (s.setC b).ptrb = s.ptrb := rfl
@[simp] theorem State.setC_cv (s : State) (b : Bool) : (s.setC b).cv = s.cv := rfl
@[simp] theorem State.setC_ctag (s : State) (b : Bool) : (s.setC b).ctag = s.ctag := rfl
@[simp] theorem State.setC_pushPop (s : State) (b : Bool) : (s.setC b).pushPop = s.pushPop := rfl
@[simp] theorem State.setC_out (s : State) (b : Bool) : (s.setC b).out = s.out := rfl
@[simp] theorem State.setC_hub (s : State) (b : Bool) : (s.setC b).hub = s.hub := rfl
@[simp] theorem State.setC_qds (s : State) (b : Bool) : (s.setC b).qds = s.qds := rfl
@[simp] theorem State.setC_qex (s : State) (b : Bool) : (s.setC b).qex = s.qex := rfl
@[simp] theorem State.setC_others (s : State) (b : Bool) : (s.setC b).others = s.others := rfl
@[simp] theorem State.setC_windowWritten (s : State) (b : Bool) : (s.setC b).windowWritten = s.windowWritten := rfl
@[simp] theorem State.setC_writtenAt (s : State) (b : Bool) : (s.setC b).writtenAt = s.writtenAt := rfl
@[simp] theorem State.setC_quadWrittenAt (s : State) (b : Bool) : (s.setC b).quadWrittenAt = s.quadWrittenAt := rfl
@[simp] theorem State.setC_steps (s : State) (b : Bool) : (s.setC b).steps = s.steps := rfl
@[simp] theorem State.setC_draws (s : State) (b : Bool) : (s.setC b).draws = s.draws := rfl
@[simp] theorem State.setC_params (s : State) (b : Bool) : (s.setC b).params = s.params := rfl

/-! ## setX -/

@[simp] theorem State.setX_qbase (s : State) (a : CogAddr) (v : Long) : (s.setX a v).qbase = s.qbase := by
  unfold State.setX; split <;> rfl
@[simp] theorem State.setX_pcs (s : State) (a : CogAddr) (v : Long) : (s.setX a v).pcs = s.pcs := by
  unfold State.setX; split <;> rfl
@[simp] theorem State.setX_task (s : State) (a : CogAddr) (v : Long) : (s.setX a v).task = s.task := by
  unfold State.setX; split <;> rfl
@[simp] theorem State.setX_ptra (s : State) (a : CogAddr) (v : Long) : (s.setX a v).ptra = s.ptra := by
  unfold State.setX; split <;> rfl
@[simp] theorem State.setX_ptrb (s : State) (a : CogAddr) (v : Long) : (s.setX a v).ptrb = s.ptrb := by
  unfold State.setX; split <;> rfl
@[simp] theorem State.setX_cv (s : State) (a : CogAddr) (v : Long) : (s.setX a v).cv = s.cv := by
  unfold State.setX; split <;> rfl
@[simp] theorem State.setX_ctag (s : State) (a : CogAddr) (v : Long) : (s.setX a v).ctag = s.ctag := by
  unfold State.setX; split <;> rfl
@[simp] theorem State.setX_flags (s : State) (a : CogAddr) (v : Long) : (s.setX a v).flags = s.flags := by
  unfold State.setX; split <;> rfl
@[simp] theorem State.setX_pushPop (s : State) (a : CogAddr) (v : Long) : (s.setX a v).pushPop = s.pushPop := by
  unfold State.setX; split <;> rfl
@[simp] theorem State.setX_out (s : State) (a : CogAddr) (v : Long) : (s.setX a v).out = s.out := by
  unfold State.setX; split <;> rfl
@[simp] theorem State.setX_hub (s : State) (a : CogAddr) (v : Long) : (s.setX a v).hub = s.hub := by
  unfold State.setX; split <;> rfl
@[simp] theorem State.setX_qds (s : State) (a : CogAddr) (v : Long) : (s.setX a v).qds = s.qds := by
  unfold State.setX; split <;> rfl
@[simp] theorem State.setX_qex (s : State) (a : CogAddr) (v : Long) : (s.setX a v).qex = s.qex := by
  unfold State.setX; split <;> rfl
@[simp] theorem State.setX_others (s : State) (a : CogAddr) (v : Long) : (s.setX a v).others = s.others := by
  unfold State.setX; split <;> rfl
@[simp] theorem State.setX_windowWritten (s : State) (a : CogAddr) (v : Long) : (s.setX a v).windowWritten = s.windowWritten := by
  unfold State.setX; split <;> rfl
@[simp] theorem State.setX_steps (s : State) (a : CogAddr) (v : Long) : (s.setX a v).steps = s.steps := by
  unfold State.setX; split <;> rfl
@[simp] theorem State.setX_params (s : State) (a : CogAddr) (v : Long) : (s.setX a v).params = s.params := by
  unfold State.setX; split <;> rfl

/-! ## setPtr -/

@[simp] theorem State.setPtr_regs (s : State) (b : Bool) (v : HubAddr) : (s.setPtr b v).regs = s.regs := by
  cases b <;> rfl
@[simp] theorem State.setPtr_quads (s : State) (b : Bool) (v : HubAddr) : (s.setPtr b v).quads = s.quads := by
  cases b <;> rfl
@[simp] theorem State.setPtr_qbase (s : State) (b : Bool) (v : HubAddr) : (s.setPtr b v).qbase = s.qbase := by
  cases b <;> rfl
@[simp] theorem State.setPtr_pcs (s : State) (b : Bool) (v : HubAddr) : (s.setPtr b v).pcs = s.pcs := by
  cases b <;> rfl
@[simp] theorem State.setPtr_task (s : State) (b : Bool) (v : HubAddr) : (s.setPtr b v).task = s.task := by
  cases b <;> rfl
@[simp] theorem State.setPtr_cv (s : State) (b : Bool) (v : HubAddr) : (s.setPtr b v).cv = s.cv := by
  cases b <;> rfl
@[simp] theorem State.setPtr_ctag (s : State) (b : Bool) (v : HubAddr) : (s.setPtr b v).ctag = s.ctag := by
  cases b <;> rfl
@[simp] theorem State.setPtr_flags (s : State) (b : Bool) (v : HubAddr) : (s.setPtr b v).flags = s.flags := by
  cases b <;> rfl
@[simp] theorem State.setPtr_pushPop (s : State) (b : Bool) (v : HubAddr) : (s.setPtr b v).pushPop = s.pushPop := by
  cases b <;> rfl
@[simp] theorem State.setPtr_out (s : State) (b : Bool) (v : HubAddr) : (s.setPtr b v).out = s.out := by
  cases b <;> rfl
@[simp] theorem State.setPtr_hub (s : State) (b : Bool) (v : HubAddr) : (s.setPtr b v).hub = s.hub := by
  cases b <;> rfl
@[simp] theorem State.setPtr_qds (s : State) (b : Bool) (v : HubAddr) : (s.setPtr b v).qds = s.qds := by
  cases b <;> rfl
@[simp] theorem State.setPtr_qex (s : State) (b : Bool) (v : HubAddr) : (s.setPtr b v).qex = s.qex := by
  cases b <;> rfl
@[simp] theorem State.setPtr_others (s : State) (b : Bool) (v : HubAddr) : (s.setPtr b v).others = s.others := by
  cases b <;> rfl
@[simp] theorem State.setPtr_windowWritten (s : State) (b : Bool) (v : HubAddr) : (s.setPtr b v).windowWritten = s.windowWritten := by
  cases b <;> rfl
@[simp] theorem State.setPtr_writtenAt (s : State) (b : Bool) (v : HubAddr) : (s.setPtr b v).writtenAt = s.writtenAt := by
  cases b <;> rfl
@[simp] theorem State.setPtr_quadWrittenAt (s : State) (b : Bool) (v : HubAddr) : (s.setPtr b v).quadWrittenAt = s.quadWrittenAt := by
  cases b <;> rfl
@[simp] theorem State.setPtr_steps (s : State) (b : Bool) (v : HubAddr) : (s.setPtr b v).steps = s.steps := by
  cases b <;> rfl
@[simp] theorem State.setPtr_draws (s : State) (b : Bool) (v : HubAddr) : (s.setPtr b v).draws = s.draws := by
  cases b <;> rfl
@[simp] theorem State.setPtr_params (s : State) (b : Bool) (v : HubAddr) : (s.setPtr b v).params = s.params := by
  cases b <;> rfl

/-! ## writeZ -/

@[simp] theorem State.writeZ_regs (s : State) (zb : Bool) (src : ZSource) (v : Long) : (s.writeZ zb src v).regs = s.regs := by
  cases zb <;> rfl
@[simp] theorem State.writeZ_quads (s : State) (zb : Bool) (src : ZSource) (v : Long) : (s.writeZ zb src v).quads = s.quads := by
  cases zb <;> rfl
@[simp] theorem State.writeZ_qbase (s : State) (zb : Bool) (src : ZSource) (v : Long) : (s.writeZ zb src v).qbase = s.qbase := by
  cases zb <;> rfl
@[simp] theorem State.writeZ_pcs (s : State) (zb : Bool) (src : ZSource) (v : Long) : (s.writeZ zb src v).pcs = s.pcs := by
  cases zb <;> rfl
@[simp] theorem State.writeZ_task (s : State) (zb : Bool) (src : ZSource) (v : Long) : (s.writeZ zb src v).task = s.task := by
  cases zb <;> rfl
@[simp] theorem State.writeZ_ptra (s : State) (zb : Bool) (src : ZSource) (v : Long) : (s.writeZ zb src v).ptra = s.ptra := by
  cases zb <;> rfl
@[simp] theorem State.writeZ_ptrb (s : State) (zb : Bool) (src : ZSource) (v : Long) : (s.writeZ zb src v).ptrb = s.ptrb := by
  cases zb <;> rfl
@[simp] theorem State.writeZ_cv (s : State) (zb : Bool) (src : ZSource) (v : Long) : (s.writeZ zb src v).cv = s.cv := by
  cases zb <;> rfl
@[simp] theorem State.writeZ_ctag (s : State) (zb : Bool) (src : ZSource) (v : Long) : (s.writeZ zb src v).ctag = s.ctag := by
  cases zb <;> rfl
@[simp] theorem State.writeZ_pushPop (s : State) (zb : Bool) (src : ZSource) (v : Long) : (s.writeZ zb src v).pushPop = s.pushPop := by
  cases zb <;> rfl
@[simp] theorem State.writeZ_out (s : State) (zb : Bool) (src : ZSource) (v : Long) : (s.writeZ zb src v).out = s.out := by
  cases zb <;> rfl
@[simp] theorem State.writeZ_hub (s : State) (zb : Bool) (src : ZSource) (v : Long) : (s.writeZ zb src v).hub = s.hub := by
  cases zb <;> rfl
@[simp] theorem State.writeZ_qds (s : State) (zb : Bool) (src : ZSource) (v : Long) : (s.writeZ zb src v).qds = s.qds := by
  cases zb <;> rfl
@[simp] theorem State.writeZ_qex (s : State) (zb : Bool) (src : ZSource) (v : Long) : (s.writeZ zb src v).qex = s.qex := by
  cases zb <;> rfl
@[simp] theorem State.writeZ_others (s : State) (zb : Bool) (src : ZSource) (v : Long) : (s.writeZ zb src v).others = s.others := by
  cases zb <;> rfl
@[simp] theorem State.writeZ_windowWritten (s : State) (zb : Bool) (src : ZSource) (v : Long) : (s.writeZ zb src v).windowWritten = s.windowWritten := by
  cases zb <;> rfl
@[simp] theorem State.writeZ_writtenAt (s : State) (zb : Bool) (src : ZSource) (v : Long) : (s.writeZ zb src v).writtenAt = s.writtenAt := by
  cases zb <;> rfl
@[simp] theorem State.writeZ_quadWrittenAt (s : State) (zb : Bool) (src : ZSource) (v : Long) : (s.writeZ zb src v).quadWrittenAt = s.quadWrittenAt := by
  cases zb <;> rfl
@[simp] theorem State.writeZ_steps (s : State) (zb : Bool) (src : ZSource) (v : Long) : (s.writeZ zb src v).steps = s.steps := by
  cases zb <;> rfl
@[simp] theorem State.writeZ_draws (s : State) (zb : Bool) (src : ZSource) (v : Long) : (s.writeZ zb src v).draws = s.draws := by
  cases zb <;> rfl
@[simp] theorem State.writeZ_params (s : State) (zb : Bool) (src : ZSource) (v : Long) : (s.writeZ zb src v).params = s.params := by
  cases zb <;> rfl

/-! ## drawC -/

@[simp] theorem State.drawC_regs (s : State) (b : Bool) : (s.drawC b).regs = s.regs := by
  cases b <;> rfl
@[simp] theorem State.drawC_quads (s : State) (b : Bool) : (s.drawC b).quads = s.quads := by
  cases b <;> rfl
@[simp] theorem State.drawC_qbase (s : State) (b : Bool) : (s.drawC b).qbase = s.qbase := by
  cases b <;> rfl
@[simp] theorem State.drawC_pcs (s : State) (b : Bool) : (s.drawC b).pcs = s.pcs := by
  cases b <;> rfl
@[simp] theorem State.drawC_task (s : State) (b : Bool) : (s.drawC b).task = s.task := by
  cases b <;> rfl
@[simp] theorem State.drawC_ptra (s : State) (b : Bool) : (s.drawC b).ptra = s.ptra := by
  cases b <;> rfl
@[simp] theorem State.drawC_ptrb (s : State) (b : Bool) : (s.drawC b).ptrb = s.ptrb := by
  cases b <;> rfl
@[simp] theorem State.drawC_cv (s : State) (b : Bool) : (s.drawC b).cv = s.cv := by
  cases b <;> rfl
@[simp] theorem State.drawC_ctag (s : State) (b : Bool) : (s.drawC b).ctag = s.ctag := by
  cases b <;> rfl
@[simp] theorem State.drawC_pushPop (s : State) (b : Bool) : (s.drawC b).pushPop = s.pushPop := by
  cases b <;> rfl
@[simp] theorem State.drawC_out (s : State) (b : Bool) : (s.drawC b).out = s.out := by
  cases b <;> rfl
@[simp] theorem State.drawC_hub (s : State) (b : Bool) : (s.drawC b).hub = s.hub := by
  cases b <;> rfl
@[simp] theorem State.drawC_qds (s : State) (b : Bool) : (s.drawC b).qds = s.qds := by
  cases b <;> rfl
@[simp] theorem State.drawC_qex (s : State) (b : Bool) : (s.drawC b).qex = s.qex := by
  cases b <;> rfl
@[simp] theorem State.drawC_others (s : State) (b : Bool) : (s.drawC b).others = s.others := by
  cases b <;> rfl
@[simp] theorem State.drawC_windowWritten (s : State) (b : Bool) : (s.drawC b).windowWritten = s.windowWritten := by
  cases b <;> rfl
@[simp] theorem State.drawC_writtenAt (s : State) (b : Bool) : (s.drawC b).writtenAt = s.writtenAt := by
  cases b <;> rfl
@[simp] theorem State.drawC_quadWrittenAt (s : State) (b : Bool) : (s.drawC b).quadWrittenAt = s.quadWrittenAt := by
  cases b <;> rfl
@[simp] theorem State.drawC_steps (s : State) (b : Bool) : (s.drawC b).steps = s.steps := by
  cases b <;> rfl
@[simp] theorem State.drawC_params (s : State) (b : Bool) : (s.drawC b).params = s.params := by
  cases b <;> rfl

/-! ## writeD -/

@[simp] theorem State.writeD_qbase (s : State) (b : Bool) (a : CogAddr) (v : Long) : (s.writeD b a v).qbase = s.qbase := by
  cases b <;> simp [State.writeD]
@[simp] theorem State.writeD_pcs (s : State) (b : Bool) (a : CogAddr) (v : Long) : (s.writeD b a v).pcs = s.pcs := by
  cases b <;> simp [State.writeD]
@[simp] theorem State.writeD_task (s : State) (b : Bool) (a : CogAddr) (v : Long) : (s.writeD b a v).task = s.task := by
  cases b <;> simp [State.writeD]
@[simp] theorem State.writeD_ptra (s : State) (b : Bool) (a : CogAddr) (v : Long) : (s.writeD b a v).ptra = s.ptra := by
  cases b <;> simp [State.writeD]
@[simp] theorem State.writeD_ptrb (s : State) (b : Bool) (a : CogAddr) (v : Long) : (s.writeD b a v).ptrb = s.ptrb := by
  cases b <;> simp [State.writeD]
@[simp] theorem State.writeD_cv (s : State) (b : Bool) (a : CogAddr) (v : Long) : (s.writeD b a v).cv = s.cv := by
  cases b <;> simp [State.writeD]
@[simp] theorem State.writeD_ctag (s : State) (b : Bool) (a : CogAddr) (v : Long) : (s.writeD b a v).ctag = s.ctag := by
  cases b <;> simp [State.writeD]
@[simp] theorem State.writeD_flags (s : State) (b : Bool) (a : CogAddr) (v : Long) : (s.writeD b a v).flags = s.flags := by
  cases b <;> simp [State.writeD]
@[simp] theorem State.writeD_pushPop (s : State) (b : Bool) (a : CogAddr) (v : Long) : (s.writeD b a v).pushPop = s.pushPop := by
  cases b <;> simp [State.writeD]
@[simp] theorem State.writeD_out (s : State) (b : Bool) (a : CogAddr) (v : Long) : (s.writeD b a v).out = s.out := by
  cases b <;> simp [State.writeD]
@[simp] theorem State.writeD_hub (s : State) (b : Bool) (a : CogAddr) (v : Long) : (s.writeD b a v).hub = s.hub := by
  cases b <;> simp [State.writeD]
@[simp] theorem State.writeD_qds (s : State) (b : Bool) (a : CogAddr) (v : Long) : (s.writeD b a v).qds = s.qds := by
  cases b <;> simp [State.writeD]
@[simp] theorem State.writeD_qex (s : State) (b : Bool) (a : CogAddr) (v : Long) : (s.writeD b a v).qex = s.qex := by
  cases b <;> simp [State.writeD]
@[simp] theorem State.writeD_others (s : State) (b : Bool) (a : CogAddr) (v : Long) : (s.writeD b a v).others = s.others := by
  cases b <;> simp [State.writeD]
@[simp] theorem State.writeD_windowWritten (s : State) (b : Bool) (a : CogAddr) (v : Long) : (s.writeD b a v).windowWritten = s.windowWritten := by
  cases b <;> simp [State.writeD]
@[simp] theorem State.writeD_steps (s : State) (b : Bool) (a : CogAddr) (v : Long) : (s.writeD b a v).steps = s.steps := by
  cases b <;> simp [State.writeD]
@[simp] theorem State.writeD_params (s : State) (b : Bool) (a : CogAddr) (v : Long) : (s.writeD b a v).params = s.params := by
  cases b <;> simp [State.writeD]

/-! ## ptrUpdate -/

@[simp] theorem ptrUpdate_regs (s : State) (e : PtrExpr) (n : Nat) : (ptrUpdate e n s).regs = s.regs := by
  unfold ptrUpdate; split <;> simp
@[simp] theorem ptrUpdate_quads (s : State) (e : PtrExpr) (n : Nat) : (ptrUpdate e n s).quads = s.quads := by
  unfold ptrUpdate; split <;> simp
@[simp] theorem ptrUpdate_qbase (s : State) (e : PtrExpr) (n : Nat) : (ptrUpdate e n s).qbase = s.qbase := by
  unfold ptrUpdate; split <;> simp
@[simp] theorem ptrUpdate_pcs (s : State) (e : PtrExpr) (n : Nat) : (ptrUpdate e n s).pcs = s.pcs := by
  unfold ptrUpdate; split <;> simp
@[simp] theorem ptrUpdate_task (s : State) (e : PtrExpr) (n : Nat) : (ptrUpdate e n s).task = s.task := by
  unfold ptrUpdate; split <;> simp
@[simp] theorem ptrUpdate_cv (s : State) (e : PtrExpr) (n : Nat) : (ptrUpdate e n s).cv = s.cv := by
  unfold ptrUpdate; split <;> simp
@[simp] theorem ptrUpdate_ctag (s : State) (e : PtrExpr) (n : Nat) : (ptrUpdate e n s).ctag = s.ctag := by
  unfold ptrUpdate; split <;> simp
@[simp] theorem ptrUpdate_flags (s : State) (e : PtrExpr) (n : Nat) : (ptrUpdate e n s).flags = s.flags := by
  unfold ptrUpdate; split <;> simp
@[simp] theorem ptrUpdate_pushPop (s : State) (e : PtrExpr) (n : Nat) : (ptrUpdate e n s).pushPop = s.pushPop := by
  unfold ptrUpdate; split <;> simp
@[simp] theorem ptrUpdate_out (s : State) (e : PtrExpr) (n : Nat) : (ptrUpdate e n s).out = s.out := by
  unfold ptrUpdate; split <;> simp
@[simp] theorem ptrUpdate_hub (s : State) (e : PtrExpr) (n : Nat) : (ptrUpdate e n s).hub = s.hub := by
  unfold ptrUpdate; split <;> simp
@[simp] theorem ptrUpdate_qds (s : State) (e : PtrExpr) (n : Nat) : (ptrUpdate e n s).qds = s.qds := by
  unfold ptrUpdate; split <;> simp
@[simp] theorem ptrUpdate_qex (s : State) (e : PtrExpr) (n : Nat) : (ptrUpdate e n s).qex = s.qex := by
  unfold ptrUpdate; split <;> simp
@[simp] theorem ptrUpdate_others (s : State) (e : PtrExpr) (n : Nat) : (ptrUpdate e n s).others = s.others := by
  unfold ptrUpdate; split <;> simp
@[simp] theorem ptrUpdate_windowWritten (s : State) (e : PtrExpr) (n : Nat) : (ptrUpdate e n s).windowWritten = s.windowWritten := by
  unfold ptrUpdate; split <;> simp
@[simp] theorem ptrUpdate_writtenAt (s : State) (e : PtrExpr) (n : Nat) : (ptrUpdate e n s).writtenAt = s.writtenAt := by
  unfold ptrUpdate; split <;> simp
@[simp] theorem ptrUpdate_quadWrittenAt (s : State) (e : PtrExpr) (n : Nat) : (ptrUpdate e n s).quadWrittenAt = s.quadWrittenAt := by
  unfold ptrUpdate; split <;> simp
@[simp] theorem ptrUpdate_steps (s : State) (e : PtrExpr) (n : Nat) : (ptrUpdate e n s).steps = s.steps := by
  unfold ptrUpdate; split <;> simp
@[simp] theorem ptrUpdate_draws (s : State) (e : PtrExpr) (n : Nat) : (ptrUpdate e n s).draws = s.draws := by
  unfold ptrUpdate; split <;> simp
@[simp] theorem ptrUpdate_params (s : State) (e : PtrExpr) (n : Nat) : (ptrUpdate e n s).params = s.params := by
  unfold ptrUpdate; split <;> simp

/-! ## endSlot -/

@[simp] theorem endSlot_regs (s : State) (i : Instr) : (endSlot i s).regs = s.regs := by
  unfold endSlot; split <;> simp
@[simp] theorem endSlot_quads (s : State) (i : Instr) : (endSlot i s).quads = s.quads := by
  unfold endSlot; split <;> simp
@[simp] theorem endSlot_qbase (s : State) (i : Instr) : (endSlot i s).qbase = s.qbase := by
  unfold endSlot; split <;> simp
@[simp] theorem endSlot_pcs (s : State) (i : Instr) : (endSlot i s).pcs = s.pcs := by
  unfold endSlot; split <;> simp
@[simp] theorem endSlot_ptra (s : State) (i : Instr) : (endSlot i s).ptra = s.ptra := by
  unfold endSlot; split <;> simp
@[simp] theorem endSlot_ptrb (s : State) (i : Instr) : (endSlot i s).ptrb = s.ptrb := by
  unfold endSlot; split <;> simp
@[simp] theorem endSlot_cv (s : State) (i : Instr) : (endSlot i s).cv = s.cv := by
  unfold endSlot; split <;> simp
@[simp] theorem endSlot_ctag (s : State) (i : Instr) : (endSlot i s).ctag = s.ctag := by
  unfold endSlot; split <;> simp
@[simp] theorem endSlot_flags (s : State) (i : Instr) : (endSlot i s).flags = s.flags := by
  unfold endSlot; split <;> simp
@[simp] theorem endSlot_pushPop (s : State) (i : Instr) : (endSlot i s).pushPop = s.pushPop := by
  unfold endSlot; split <;> simp
@[simp] theorem endSlot_out (s : State) (i : Instr) : (endSlot i s).out = s.out := by
  unfold endSlot; split <;> simp
@[simp] theorem endSlot_hub (s : State) (i : Instr) : (endSlot i s).hub = s.hub := by
  unfold endSlot; split <;> simp
@[simp] theorem endSlot_qds (s : State) (i : Instr) : (endSlot i s).qds = s.qds := by
  unfold endSlot; split <;> simp
@[simp] theorem endSlot_qex (s : State) (i : Instr) : (endSlot i s).qex = s.qex := by
  unfold endSlot; split <;> simp
@[simp] theorem endSlot_others (s : State) (i : Instr) : (endSlot i s).others = s.others := by
  unfold endSlot; split <;> simp
@[simp] theorem endSlot_windowWritten (s : State) (i : Instr) : (endSlot i s).windowWritten = s.windowWritten := by
  unfold endSlot; split <;> simp
@[simp] theorem endSlot_writtenAt (s : State) (i : Instr) : (endSlot i s).writtenAt = s.writtenAt := by
  unfold endSlot; split <;> simp
@[simp] theorem endSlot_quadWrittenAt (s : State) (i : Instr) : (endSlot i s).quadWrittenAt = s.quadWrittenAt := by
  unfold endSlot; split <;> simp
@[simp] theorem endSlot_steps (s : State) (i : Instr) : (endSlot i s).steps = s.steps := by
  unfold endSlot; split <;> simp
@[simp] theorem endSlot_draws (s : State) (i : Instr) : (endSlot i s).draws = s.draws := by
  unfold endSlot; split <;> simp
@[simp] theorem endSlot_params (s : State) (i : Instr) : (endSlot i s).params = s.params := by
  unfold endSlot; split <;> simp

end Sys2Proof.Machine
end

