-- ==== Sys2Proof/Laws/Ops.lean ====
section
/-!
SUPPORT. What each shared operation can do, said once: if it answers `next`, then this. Proofs cite these
lemmas and do not unfold the operations.
-/

namespace Sys2Proof.Machine

/-! ## Sequencing -/

section
variable {α β : Type}

@[simp] theorem andThen_next (a : α) (k : α → Result β) : andThen (.next a) k = k a := rfl

@[simp] theorem andThen_fault (f : Fault) (k : α → Result β) : andThen (.fault f) k = .fault f := rfl

@[simp] theorem andThen_refused (r : Refusal) (k : α → Result β) : andThen (.refused r) k = .refused r := rfl

theorem andThen_eq_next {o : Result α} {k : α → Result β} {b : β} :
    andThen o k = .next b ↔ ∃ a, o = .next a ∧ k a = .next b := by
  cases o <;> simp [andThen]

theorem orFault_eq_next {f : Fault} {o : Option α} {a : α} : orFault f o = .next a ↔ o = some a := by
  cases o <;> simp [orFault]

end

theorem whenHolds_eq_next {cond : Cond} {s t : State} {effect : State → Result State} :
    whenHolds cond s effect = .next t ↔
      (s.holds cond = true ∧ effect s = .next t) ∨ (s.holds cond = false ∧ s = t) := by
  unfold whenHolds
  cases s.holds cond <;> simp

theorem whenHolds_of_holds {cond : Cond} {s : State} {effect : State → Result State}
    (h : s.holds cond = true) : whenHolds cond s effect = effect s := by
  simp [whenHolds, h]

/-! ## Registers -/

theorem readX_eq_next {a : CogAddr} {s : State} {v : Long} :
    readX a s = .next v ↔ s.early a = false ∧ s.x a = v := by
  unfold readX
  cases s.early a <;> simp

theorem claimX_eq_next {a : CogAddr} {s t : State} : claimX a s = .next t ↔ s.early a = false ∧ s = t := by
  unfold claimX
  cases s.early a <;> simp

theorem useQuads_eq_next {s t : State} : useQuads s = .next t ↔ s.qds = 0 ∧ s = t := by
  unfold useQuads
  by_cases h : s.qds = 0 <;> simp [h]

/-- Where no address is in its delay, no access is early. -/
theorem early_of_qds_zero {s : State} (a : CogAddr) (h : s.qds = 0) : s.early a = false := by
  simp [State.early, h]

theorem word_of_not_overlaid {s : State} {a : CogAddr} (h : s.overlaid a = false) :
    s.word a = s.regs[a.toNat]'a.isLt := by
  simp [State.word, h]

theorem word_of_overlaid {s : State} {a : CogAddr} (h : s.overlaid a = true) :
    s.word a = .long s.quads[quadIndex a] := by
  simp [State.word, h]

theorem lastWrite_of_not_overlaid {s : State} {a : CogAddr} (h : s.overlaid a = false) :
    s.lastWrite a = s.writtenAt[a.toNat]'a.isLt := by
  simp [State.lastWrite, h]

theorem lastWrite_of_overlaid {s : State} {a : CogAddr} (h : s.overlaid a = true) :
    s.lastWrite a = s.quadWrittenAt[quadIndex a] := by
  simp [State.lastWrite, h]

theorem setX_of_not_overlaid {s : State} {a : CogAddr} {v : Long} (h : s.overlaid a = false) :
    s.setX a v = s.setReg a v := by
  simp [State.setX, h]

theorem setX_of_overlaid {s : State} {a : CogAddr} {v : Long} (h : s.overlaid a = true) :
    s.setX a v = s.blurShadow.setQuad (quadIndex a) v := by
  simp [State.setX, h]

/-- A write through the overlay is recorded at the four registers under it. -/
theorem State.blurShadow_writtenAt {s : State} (hm : s.quadsMapped = true) (a : CogAddr) :
    s.blurShadow.writtenAt[a.toNat]'a.isLt =
      if s.overlaid a = true then some s.steps else s.writtenAt[a.toNat]'a.isLt := by
  have hb : s.qbase.toNat % 4 = 0 := by
    simp only [State.quadsMapped, beq_iff_eq] at hm
    simpa [BitVec.extractLsb', Nat.shiftRight_eq_div_pow] using congrArg BitVec.toNat hm
  have ho : s.overlaid a = true ↔ a.toNat / 4 = s.qbase.toNat / 4 := by
    have h1 := a.isLt
    have h2 := s.qbase.isLt
    simp only [State.overlaid, hm, Bool.true_and, beq_iff_eq, ← BitVec.toNat_inj]
    simp only [BitVec.extractLsb', BitVec.toNat_ofNat, Nat.shiftRight_eq_div_pow]
    omega
  show (((((s.writtenAt.setIfInBounds _ _).setIfInBounds _ _).setIfInBounds _ _).setIfInBounds _ _)[a.toNat]'a.isLt) = _
  simp only [Vector.getElem_setIfInBounds, ho]
  split_ifs <;> first | rfl | omega

/-! ## Operands -/

theorem hubAddress_reg_eq_next {a : CogAddr} {n : Nat} {s : State} {p : HubAddr × State} :
    hubAddress (.reg a) n s = .next p ↔ s.early a = false ∧ ((s.x a).setWidth 17, s) = p := by
  simp only [hubAddress, andThen_eq_next, readX_eq_next, Host.Outcome.next.injEq]
  constructor
  · rintro ⟨v, ⟨he, rfl⟩, h⟩
    exact ⟨he, h⟩
  · rintro ⟨he, h⟩
    exact ⟨_, ⟨he, rfl⟩, h⟩

theorem hubAddress_ptr {e : PtrExpr} {n : Nat} {s : State} :
    hubAddress (.ptr e) n s = .next (ptrAddress e n s, ptrUpdate e n s) := rfl

theorem operandValue_reg_eq_next {a : CogAddr} {s : State} {v : Long} :
    operandValue (.reg a) s = .next v ↔ s.early a = false ∧ s.x a = v := readX_eq_next

theorem operandValue_lit {n : BitVec 9} {s : State} : operandValue (.lit n) s = .next (n.setWidth 32) := rfl

theorem taskOperandValue_reg_eq_next {a : CogAddr} {s : State} {v : Long} :
    taskOperandValue (.reg a) s = .next v ↔ s.early a = false ∧ s.x a = v := readX_eq_next

theorem taskOperandValue_lit {v : Long} {s : State} : taskOperandValue (.lit v) s = .next v := rfl

/-! ## Hub accesses and the read cache -/

theorem loadUnit_eq_next {sz : DataSize} {a : HubAddr} {s : State} {v : Long} :
    loadUnit sz a s = .next v ↔ s.hub.read sz a = some v := orFault_eq_next

theorem loadQuad_eq_next {a : HubAddr} {s : State} {q : Vector Long 4} :
    loadQuad a s = .next q ↔ s.hub.readQuad a = some q := orFault_eq_next

/-- A store touches RAM, and changes the bytes of one aligned unit and the memory of having written. -/
theorem store_eq_next {n : Nat} {a : HubAddr} {bs : List Byte} {s t : State} :
    store n a bs s = .next t ↔ romEnd ≤ unitBase n a ∧
      { s with hub := s.hub.setBytes (unitBase n a) bs,
               windowWritten := s.windowWritten || s.hits a } = t := by
  unfold store
  cases hw : s.hub.write n a bs with
  | none =>
    have := Memory.write_eq_none.1 hw
    simp
    omega
  | some h =>
    obtain ⟨hr, rfl⟩ := Memory.write_eq_some.1 hw
    simp [hr]

theorem store_rom {n : Nat} {a : HubAddr} {bs : List Byte} {s : State} (h : unitBase n a < romEnd) :
    store n a bs s = .refused .romWrite := by
  simp [store, Memory.write_eq_none.2 h]

theorem cacheFill_eq_next {a : HubAddr} {s t : State} :
    cacheFill a s = .next t ↔ ∃ q, s.hub.readQuad a = some q ∧ s.loadQuads q true (windowOf a) = t := by
  simp [cacheFill, andThen_eq_next, loadQuad_eq_next]

theorem cacheHit_eq_next {s t : State} :
    cacheHit s = .next t ↔ s.windowWritten = false ∧ s.qds = 0 ∧ s = t := by
  unfold cacheHit
  cases s.windowWritten <;> by_cases h : s.qds = 0 <;> simp [h]

/-- A cached lookup either hits and changes nothing, or fills. -/
theorem cacheLookup_eq_next {a : HubAddr} {s t : State} :
    cacheLookup a s = .next t ↔
      (s.hits a = true ∧ s.windowWritten = false ∧ s.qds = 0 ∧ s = t) ∨
      (s.hits a = false ∧ ∃ q, s.hub.readQuad a = some q ∧ s.loadQuads q true (windowOf a) = t) := by
  unfold cacheLookup
  cases s.hits a <;> simp [cacheHit_eq_next, cacheFill_eq_next]

theorem explicitRdquad_eq_next {a : HubAddr} {s t : State} :
    explicitRdquad a s = .next t ↔ ∃ q, s.hub.readQuad a = some q ∧
      (if s.params.explicitRdquadValidates then s.loadQuads q true (windowOf a)
        else s.loadQuads q false s.ctag) = t := by
  simp only [explicitRdquad, andThen_eq_next, loadQuad_eq_next, Host.Outcome.next.injEq]

/-! ## The shared parts of the instructions -/

theorem writeUnit_eq_next {sz : DataSize} {d : CogAddr} {op : HubOperand} {s t : State} :
    writeUnit sz d op s = .next t ↔ s.early d = false ∧
      ∃ p, hubAddress op sz.bytes s = .next p ∧ store sz.bytes p.1 (unitBytes sz (s.x d)) p.2 = .next t := by
  simp only [writeUnit, andThen_eq_next, readX_eq_next]
  constructor
  · rintro ⟨v, ⟨he, rfl⟩, p, hp, h⟩
    exact ⟨he, p, hp, h⟩
  · rintro ⟨he, p, hp, h⟩
    exact ⟨_, ⟨he, rfl⟩, p, hp, h⟩

theorem readUnit_eq_next {sz : DataSize} {src : ZSource} {zb : Bool} {d : CogAddr} {op : HubOperand}
    {s t : State} :
    readUnit sz src zb d op s = .next t ↔ s.early d = false ∧
      ∃ p v, hubAddress op sz.bytes s = .next p ∧ p.2.hub.read sz p.1 = some v ∧
        (p.2.setX d v).writeZ zb src v = t := by
  simp only [readUnit, andThen_eq_next, claimX_eq_next, loadUnit_eq_next, Host.Outcome.next.injEq]
  constructor
  · rintro ⟨_, ⟨he, rfl⟩, p, hp, v, hv, h⟩
    exact ⟨he, p, v, hp, hv, h⟩
  · rintro ⟨he, p, v, hp, hv, h⟩
    exact ⟨_, ⟨he, rfl⟩, p, hp, v, hv, h⟩

theorem readCachedUnit_eq_next {sz : DataSize} {src : ZSource} {zb : Bool} {d : CogAddr} {op : HubOperand}
    {s t : State} :
    readCachedUnit sz src zb d op s = .next t ↔
      ∃ p u, hubAddress op sz.bytes s = .next p ∧ cacheLookup p.1 p.2 = .next u ∧
        (u.setX d (u.fromCache sz p.1)).writeZ zb src (u.fromCache sz p.1) = t := by
  simp only [readCachedUnit, andThen_eq_next, Host.Outcome.next.injEq]
  constructor
  · rintro ⟨p, hp, u, hu, h⟩
    exact ⟨p, u, hp, hu, h⟩
  · rintro ⟨p, u, hp, hu, h⟩
    exact ⟨p, hp, u, hu, h⟩

theorem writeQuad_eq_next {op : HubOperand} {s t : State} :
    writeQuad op s = .next t ↔ s.qds = 0 ∧
      ∃ p, hubAddress op quadScale s = .next p ∧ store quadScale p.1 (quadBytes s.quads) p.2 = .next t := by
  simp only [writeQuad, andThen_eq_next, useQuads_eq_next]
  constructor
  · rintro ⟨_, ⟨he, rfl⟩, p, hp, h⟩
    exact ⟨he, p, hp, h⟩
  · rintro ⟨he, p, hp, h⟩
    exact ⟨_, ⟨he, rfl⟩, p, hp, h⟩

theorem readQuads_eq_next {op : HubOperand} {s t : State} :
    readQuads op s = .next t ↔
      ∃ p, hubAddress op quadScale s = .next p ∧ explicitRdquad p.1 p.2 = .next t := andThen_eq_next

theorem readQuadsCached_eq_next {op : HubOperand} {s t : State} :
    readQuadsCached op s = .next t ↔
      ∃ p, hubAddress op quadScale s = .next p ∧ cacheLookup p.1 p.2 = .next t := andThen_eq_next

/-- GETPTRx writes D where Rb asks for it, then Z, then C. -/
theorem getPtr_eq_next {b : Bool} {src : ZSource} {z c r : Bool} {d : CogAddr} {s t : State} :
    getPtr b src z c r d s = .next t ↔ (r = true → s.early d = false) ∧
      ((s.writeD r d ((s.ptr b).setWidth 32)).writeZ z src ((s.ptr b).setWidth 32)).drawC c = t := by
  cases r
  · simp [getPtr]
  · simp only [getPtr, if_true, andThen_eq_next, claimX_eq_next, Host.Outcome.next.injEq, true_imp_iff]
    constructor
    · rintro ⟨_, ⟨he, rfl⟩, h⟩
      exact ⟨he, h⟩
    · rintro ⟨he, h⟩
      exact ⟨_, ⟨he, rfl⟩, h⟩

theorem setPointer_eq_next {b : Bool} {op : ValueOperand} {s t : State} :
    setPointer b op s = .next t ↔ ∃ v, operandValue op s = .next v ∧ s.setPtr b (v.setWidth 17) = t := by
  simp [setPointer, andThen_eq_next]

theorem addPointer_eq_next {b : Bool} {op : ValueOperand} {s t : State} :
    addPointer b op s = .next t ↔
      ∃ v, operandValue op s = .next v ∧ s.setPtr b (s.ptr b + v.setWidth 17) = t := by
  simp [addPointer, andThen_eq_next]

theorem subPointer_eq_next {b : Bool} {op : ValueOperand} {s t : State} :
    subPointer b op s = .next t ↔
      ∃ v, operandValue op s = .next v ∧ s.setPtr b (s.ptr b - v.setWidth 17) = t := by
  simp [subPointer, andThen_eq_next]

theorem getTops_eq_next {z : Bool} {d : CogAddr} {s t : State} :
    getTops z d s = .next t ↔ s.qds = 0 ∧ (s.setX d s.tops).writeZ z .gettops s.tops = t := by
  simp only [getTops, andThen_eq_next, useQuads_eq_next, Host.Outcome.next.injEq]
  constructor
  · rintro ⟨_, ⟨he, rfl⟩, h⟩
    exact ⟨he, h⟩
  · rintro ⟨he, h⟩
    exact ⟨_, ⟨he, rfl⟩, h⟩

theorem setQuadBase_eq_next {op : ValueOperand} {s t : State} :
    setQuadBase op s = .next t ↔ ∃ v, operandValue op s = .next v ∧ s.setQbase (v.setWidth 9) = t := by
  simp [setQuadBase, andThen_eq_next]

/-! ## Around the execution of an instruction -/

theorem beginSlot_eq_next {s t : State} :
    beginSlot s = .next t ↔ ∃ h, applyWrites (s.others.headD []) s.hub = some h ∧
      { s.tick with hub := h, others := s.others.tail } = t := by
  obtain ⟨regs, quads, qbase, pcs, task, ptra, ptrb, cv, ctag, flags, pushPop, out, hub, qds, qex, others,
    windowWritten, writtenAt, quadWrittenAt, steps, draws, params⟩ := s
  cases others with
  | nil => simp [beginSlot, applyWrites, State.tick]
  | cons now later =>
    simp only [beginSlot, List.headD_cons, List.tail_cons]
    cases applyWrites now hub <;> simp [State.tick]

theorem fetchWord_eq_next {a : CogAddr} {s : State} {w : CogWord} :
    fetchWord a s = .next w ↔ (s.overlaid a = true → s.qex = 0) ∧
      s.writtenTooRecently a = false ∧ s.word a = w := by
  unfold fetchWord
  cases s.overlaid a <;> cases s.writtenTooRecently a <;> by_cases h : s.qex = 0 <;> simp [h]

theorem instrOf_term (t : TaskTerm) : instrOf (.term t) = .next t.toInstr := rfl

theorem instrOf_long_eq_next {w : Long} {i : Instr} : instrOf (.long w) = .next i ↔ decode w = .ok i := by
  simp only [instrOf]
  cases decode w <;> simp

theorem fetch_eq_next {s : State} {i : Instr} :
    fetch s = .next i ↔ ∃ w, fetchWord s.pc s = .next w ∧ instrOf w = .next i := andThen_eq_next

/-- What a step can do: the slot begins, an instruction is fetched, it runs on the state with its program
counter advanced, and the slot ends. -/
theorem step_eq_next {s t : State} :
    step s = .next t ↔ ∃ s₁ i u, beginSlot s = .next s₁ ∧ fetch s₁ = .next i ∧
      exec i s₁.advance = .next u ∧ endSlot i u = t := by
  simp [step, andThen_eq_next]

/-! ## The canonical form -/

theorem wf_store {sz : DataSize} {a : HubAddr} {v : Long} {s t : State}
    (h : store sz.bytes a (unitBytes sz v) s = .next t) (hm : s.hub.wf = true) : t.hub.wf = true := by
  obtain ⟨hr, rfl⟩ := store_eq_next.1 h
  exact Memory.wf_setBytes _ _ _ hr
    (by rw [unitBytes_length]; exact unitBase_add_le (dataSize_bytes_cases sz) a) hm

theorem wf_store_quad {a : HubAddr} {q : Vector Long 4} {s t : State}
    (h : store quadScale a (quadBytes q) s = .next t) (hm : s.hub.wf = true) : t.hub.wf = true := by
  obtain ⟨hr, rfl⟩ := store_eq_next.1 h
  exact Memory.wf_setBytes _ _ _ hr
    (by rw [quadBytes_length]; exact unitBase_add_le (.inr (.inr (.inr rfl))) a) hm

theorem wf_beginSlot {s t : State} (h : beginSlot s = .next t) (hm : s.hub.wf = true) : t.hub.wf = true := by
  obtain ⟨m, hw, rfl⟩ := beginSlot_eq_next.1 h
  exact wf_applyWrites hw hm

theorem reset_hub_wf : State.reset.hub.wf = true := rfl

end Sys2Proof.Machine
end

