-- ==== Sys2Proof/Laws/Exec.lean ====
section
/-!
SUPPORT. What an instruction can do, said once: the inversion of `exec`. Frame and invariant proofs go
through the fourteen cases of `Effect` instead of the forty-seven instructions.
-/

namespace Sys2Proof.Machine

/-- The PTR expression of a hub operand is the one the instruction carries, at that scale. -/
def PtrOperandOf (i : Instr) (n : Nat) (op : HubOperand) : Prop :=
  ∀ e, op = .ptr e → ∃ k, ptrForm i = some (k, e, n)

/-- The effects `exec` can have on a state. -/
inductive Effect (i : Instr) (s t : State) : Prop where
  /-- The condition does not hold. -/
  | skipped (ht : s = t)
  /-- WRBYTE, WRWORD, WRLONG, WRQUAD. -/
  | stored (n : Nat) (op : HubOperand) (p : HubAddr × State) (bs : List Byte) (hi : writesHub i = true)
      (hn : n = 1 ∨ n = 2 ∨ n = 4 ∨ n = 16) (hl : bs.length = n) (hop : PtrOperandOf i n op)
      (hp : hubAddress op n s = .next p) (ht : store n p.1 bs p.2 = .next t)
  /-- RDBYTE, RDWORD, RDLONG. -/
  | loaded (sz : DataSize) (src : ZSource) (d : CogAddr) (op : HubOperand) (p : HubAddr × State) (v : Long)
      (hop : PtrOperandOf i sz.bytes op) (hp : hubAddress op sz.bytes s = .next p)
      (hv : p.2.hub.read sz p.1 = some v) (ht : (p.2.setX d v).writeZ (zBit i) src v = t)
  /-- RDBYTEC, RDWORDC, RDLONGC. -/
  | cached (sz : DataSize) (src : ZSource) (d : CogAddr) (op : HubOperand) (p : HubAddr × State) (u : State)
      (hi : canFill i = true) (hop : PtrOperandOf i sz.bytes op)
      (hp : hubAddress op sz.bytes s = .next p) (hu : cacheLookup p.1 p.2 = .next u)
      (ht : (u.setX d (u.fromCache sz p.1)).writeZ (zBit i) src (u.fromCache sz p.1) = t)
  /-- RDQUAD. -/
  | quadLoaded (op : HubOperand) (p : HubAddr × State) (hi : canFill i = true)
      (hop : PtrOperandOf i quadScale op) (hp : hubAddress op quadScale s = .next p)
      (ht : explicitRdquad p.1 p.2 = .next t)
  /-- RDQUADC. -/
  | quadLookedUp (op : HubOperand) (p : HubAddr × State) (hi : canFill i = true)
      (hop : PtrOperandOf i quadScale op) (hp : hubAddress op quadScale s = .next p)
      (ht : cacheLookup p.1 p.2 = .next t)
  /-- GETPTRA, GETPTRB. -/
  | pointerRead (b : Bool) (src : ZSource) (r : Bool) (d : CogAddr)
      (ht : ((s.writeD r d ((s.ptr b).setWidth 32)).writeZ (zBit i) src ((s.ptr b).setWidth 32)).drawC
        (cBit i) = t)
  /-- SETPTRx, ADDPTRx, SUBPTRx. -/
  | pointerSet (b : Bool) (v : HubAddr) (hi : pointerWritten i = some b) (ht : s.setPtr b v = t)
  /-- CACHEX. -/
  | invalidated (k : Cond) (hi : i = .cachex k) (ht : s.invalidate = t)
  /-- GETTOPS. -/
  | topsRead (d : CogAddr) (hq : s.qds = 0) (ht : (s.setX d s.tops).writeZ (zBit i) .gettops s.tops = t)
  /-- SETQUAD. -/
  | baseSet (v : BitVec 9) (hi : (∃ k d, i = .setquadD k d) ∨ ∃ k n, i = .setquadN k n)
      (ht : s.setQbase v = t)
  /-- SETTASK. -/
  | taskSet (v : BitVec 32) (hi : isSettask i = true) (ht : s.setTask v = t)
  /-- JMPTASK. -/
  | countersSet (a m : TaskOperand) (va : CogAddr) (vm : BitVec 4) (hi : i = .jmptask a m)
      (ht : { s with pcs := maskedPcs s.pcs vm va } = t)
  /-- JMP. -/
  | jumped (a : Long) (hi : i = .jmpA a) (ht : s.setPc s.currentTask (a.setWidth 9) = t)
  /-- NOTP. -/
  | pinToggled (n : Long) (hi : i = .notpN n) (hn : n.toNat < s.params.npins) (ht : s.togglePin n.toNat = t)

section
variable {i : Instr} {k : Cond} {s t : State}

/-- A condition either holds, and the effect is that of the instruction, or skips it. -/
theorem effect_whenHolds {effect : State → Result State} (h : whenHolds k s effect = .next t)
    (he : effect s = .next t → Effect i s t) : Effect i s t := by
  rcases whenHolds_eq_next.1 h with ⟨_, h⟩ | ⟨_, h⟩
  · exact he h
  · exact .skipped h

theorem effect_writeUnit {sz : DataSize} {d : CogAddr} {op : HubOperand} (hi : writesHub i = true)
    (hop : PtrOperandOf i sz.bytes op) (h : writeUnit sz d op s = .next t) : Effect i s t := by
  obtain ⟨_, p, hp, ht⟩ := writeUnit_eq_next.1 h
  exact .stored _ _ p _ hi (dataSize_bytes_cases sz) (unitBytes_length sz _) hop hp ht

theorem effect_writeQuad {op : HubOperand} (hi : writesHub i = true) (hop : PtrOperandOf i quadScale op)
    (h : writeQuad op s = .next t) : Effect i s t := by
  obtain ⟨_, p, hp, ht⟩ := writeQuad_eq_next.1 h
  exact .stored _ _ p _ hi (.inr (.inr (.inr rfl))) (quadBytes_length _) hop hp ht

theorem effect_readUnit {sz : DataSize} {src : ZSource} {z : Bool} {d : CogAddr} {op : HubOperand}
    (hz : zBit i = z) (hop : PtrOperandOf i sz.bytes op) (h : readUnit sz src z d op s = .next t) :
    Effect i s t := by
  subst hz
  obtain ⟨_, p, v, hp, hv, ht⟩ := readUnit_eq_next.1 h
  exact .loaded _ _ _ _ p v hop hp hv ht

theorem effect_readCachedUnit {sz : DataSize} {src : ZSource} {z : Bool} {d : CogAddr} {op : HubOperand}
    (hz : zBit i = z) (hi : canFill i = true) (hop : PtrOperandOf i sz.bytes op)
    (h : readCachedUnit sz src z d op s = .next t) : Effect i s t := by
  subst hz
  obtain ⟨p, u, hp, hu, ht⟩ := readCachedUnit_eq_next.1 h
  exact .cached _ _ _ _ p u hi hop hp hu ht

theorem effect_readQuads {op : HubOperand} (hi : canFill i = true) (hop : PtrOperandOf i quadScale op)
    (h : readQuads op s = .next t) : Effect i s t := by
  obtain ⟨p, hp, ht⟩ := readQuads_eq_next.1 h
  exact .quadLoaded _ p hi hop hp ht

theorem effect_readQuadsCached {op : HubOperand} (hi : canFill i = true)
    (hop : PtrOperandOf i quadScale op) (h : readQuadsCached op s = .next t) : Effect i s t := by
  obtain ⟨p, hp, ht⟩ := readQuadsCached_eq_next.1 h
  exact .quadLookedUp _ p hi hop hp ht

theorem effect_getPtr {b : Bool} {src : ZSource} {z c r : Bool} {d : CogAddr} (hz : zBit i = z)
    (hc : cBit i = c) (h : getPtr b src z c r d s = .next t) : Effect i s t := by
  subst hz hc
  exact .pointerRead b src r d (getPtr_eq_next.1 h).2

theorem effect_setPointer {b : Bool} {op : ValueOperand} (hi : pointerWritten i = some b)
    (h : setPointer b op s = .next t) : Effect i s t := by
  obtain ⟨v, _, ht⟩ := setPointer_eq_next.1 h
  exact .pointerSet _ _ hi ht

theorem effect_addPointer {b : Bool} {op : ValueOperand} (hi : pointerWritten i = some b)
    (h : addPointer b op s = .next t) : Effect i s t := by
  obtain ⟨v, _, ht⟩ := addPointer_eq_next.1 h
  exact .pointerSet _ _ hi ht

theorem effect_subPointer {b : Bool} {op : ValueOperand} (hi : pointerWritten i = some b)
    (h : subPointer b op s = .next t) : Effect i s t := by
  obtain ⟨v, _, ht⟩ := subPointer_eq_next.1 h
  exact .pointerSet _ _ hi ht

theorem effect_getTops {z : Bool} {d : CogAddr} (hz : zBit i = z) (h : getTops z d s = .next t) :
    Effect i s t := by
  subst hz
  obtain ⟨hq, ht⟩ := getTops_eq_next.1 h
  exact .topsRead _ hq ht

theorem effect_setQuadBase {op : ValueOperand}
    (hi : (∃ k d, i = .setquadD k d) ∨ ∃ k n, i = .setquadN k n)
    (h : setQuadBase op s = .next t) : Effect i s t := by
  obtain ⟨v, _, ht⟩ := setQuadBase_eq_next.1 h
  exact .baseSet _ hi ht

theorem ptrOperandOf_reg {n : Nat} {a : CogAddr} : PtrOperandOf i n (.reg a) := nofun

theorem ptrOperandOf_ptr {n : Nat} {e : PtrExpr} (h : ptrForm i = some (k, e, n)) :
    PtrOperandOf i n (.ptr e) := by
  rintro _ ⟨⟩
  exact ⟨k, h⟩

end

/-- What an instruction that answers a next state has done. -/
theorem effect_of_exec {i : Instr} {s t : State} (h : exec i s = .next t) : Effect i s t := by
  cases i with
  | wrbyteDS => exact effect_whenHolds h (effect_writeUnit rfl ptrOperandOf_reg)
  | wrbyteDPtr => exact effect_whenHolds h (effect_writeUnit rfl (ptrOperandOf_ptr rfl))
  | rdbyteDS => exact effect_whenHolds h (effect_readUnit rfl ptrOperandOf_reg)
  | rdbyteDPtr => exact effect_whenHolds h (effect_readUnit rfl (ptrOperandOf_ptr rfl))
  | rdbytecDS => exact effect_whenHolds h (effect_readCachedUnit rfl rfl ptrOperandOf_reg)
  | rdbytecDPtr => exact effect_whenHolds h (effect_readCachedUnit rfl rfl (ptrOperandOf_ptr rfl))
  | wrwordDS => exact effect_whenHolds h (effect_writeUnit rfl ptrOperandOf_reg)
  | wrwordDPtr => exact effect_whenHolds h (effect_writeUnit rfl (ptrOperandOf_ptr rfl))
  | rdwordDS => exact effect_whenHolds h (effect_readUnit rfl ptrOperandOf_reg)
  | rdwordDPtr => exact effect_whenHolds h (effect_readUnit rfl (ptrOperandOf_ptr rfl))
  | rdwordcDS => exact effect_whenHolds h (effect_readCachedUnit rfl rfl ptrOperandOf_reg)
  | rdwordcDPtr => exact effect_whenHolds h (effect_readCachedUnit rfl rfl (ptrOperandOf_ptr rfl))
  | wrlongDS => exact effect_whenHolds h (effect_writeUnit rfl ptrOperandOf_reg)
  | wrlongDPtr => exact effect_whenHolds h (effect_writeUnit rfl (ptrOperandOf_ptr rfl))
  | rdlongDS => exact effect_whenHolds h (effect_readUnit rfl ptrOperandOf_reg)
  | rdlongDPtr => exact effect_whenHolds h (effect_readUnit rfl (ptrOperandOf_ptr rfl))
  | rdlongcDS => exact effect_whenHolds h (effect_readCachedUnit rfl rfl ptrOperandOf_reg)
  | rdlongcDPtr => exact effect_whenHolds h (effect_readCachedUnit rfl rfl (ptrOperandOf_ptr rfl))
  | wrquadD => exact effect_whenHolds h (effect_writeQuad rfl ptrOperandOf_reg)
  | wrquadPtr => exact effect_whenHolds h (effect_writeQuad rfl (ptrOperandOf_ptr rfl))
  | rdquadD => exact effect_whenHolds h (effect_readQuads rfl ptrOperandOf_reg)
  | rdquadPtr => exact effect_whenHolds h (effect_readQuads rfl (ptrOperandOf_ptr rfl))
  | rdquadcD => exact effect_whenHolds h (effect_readQuadsCached rfl ptrOperandOf_reg)
  | rdquadcPtr => exact effect_whenHolds h (effect_readQuadsCached rfl (ptrOperandOf_ptr rfl))
  | getptraD => exact effect_whenHolds h (effect_getPtr rfl rfl)
  | getptrbD => exact effect_whenHolds h (effect_getPtr rfl rfl)
  | setptraD => exact effect_whenHolds h (effect_setPointer rfl)
  | setptraN => exact effect_whenHolds h (effect_setPointer rfl)
  | setptrbD => exact effect_whenHolds h (effect_setPointer rfl)
  | setptrbN => exact effect_whenHolds h (effect_setPointer rfl)
  | addptraD => exact effect_whenHolds h (effect_addPointer rfl)
  | addptraN => exact effect_whenHolds h (effect_addPointer rfl)
  | addptrbD => exact effect_whenHolds h (effect_addPointer rfl)
  | addptrbN => exact effect_whenHolds h (effect_addPointer rfl)
  | subptraD => exact effect_whenHolds h (effect_subPointer rfl)
  | subptraN => exact effect_whenHolds h (effect_subPointer rfl)
  | subptrbD => exact effect_whenHolds h (effect_subPointer rfl)
  | subptrbN => exact effect_whenHolds h (effect_subPointer rfl)
  | cachex k =>
    change whenHolds k s (fun s0 => .next s0.invalidate) = .next t at h
    exact effect_whenHolds h fun h => .invalidated k rfl (Host.Outcome.next.inj h)
  | gettopsD => exact effect_whenHolds h (effect_getTops rfl)
  | setquadD => exact effect_whenHolds h (effect_setQuadBase (.inl ⟨_, _, rfl⟩))
  | setquadN => exact effect_whenHolds h (effect_setQuadBase (.inr ⟨_, _, rfl⟩))
  | settaskN n => exact .taskSet _ rfl (Host.Outcome.next.inj h)
  | settaskD d =>
    obtain ⟨v, _, ht⟩ := andThen_eq_next.1 h
    exact .taskSet v rfl (Host.Outcome.next.inj ht)
  | jmptask a m =>
    obtain ⟨va, _, ht⟩ := andThen_eq_next.1 h
    obtain ⟨vm, _, ht⟩ := andThen_eq_next.1 ht
    exact .countersSet a m _ _ rfl (Host.Outcome.next.inj ht)
  | jmpA a => exact .jumped a rfl (Host.Outcome.next.inj h)
  | notpN n =>
    simp only [exec, execNotpN] at h
    split at h
    · exact .pinToggled n rfl ‹_› (Host.Outcome.next.inj h)
    · cases h

/-- The state beside the hub address of an operand differs by the pointer's update only. -/
theorem hubAddress_state {op : HubOperand} {n : Nat} {s : State} {p : HubAddr × State}
    (h : hubAddress op n s = .next p) : p.2 = s ∨ ∃ e, op = .ptr e ∧ p.2 = ptrUpdate e n s := by
  cases op with
  | reg a =>
    obtain ⟨_, rfl⟩ := hubAddress_reg_eq_next.1 h
    exact .inl rfl
  | ptr e =>
    cases h
    exact .inr ⟨e, rfl, rfl⟩

/-- The instruction a step has run is `nextInstr`. -/
theorem nextInstr_of_step {s s₁ : State} {i : Instr} (hb : beginSlot s = .next s₁)
    (hf : fetch s₁ = .next i) : s.nextInstr = some i := by
  simp [State.nextInstr, hb, hf]

end Sys2Proof.Machine
end

