-- ==== Sys2Proof/Laws/PerInstr.lean ====
section
/-!
SUPPORT. What is said of every instruction, one lemma for each constructor: the decoder reads back the
fields the encoder writes.
-/

namespace Sys2Proof

/-- A PTR expression is read back from its field. -/
theorem PtrExpr.ofField_toField (e : PtrExpr) : PtrExpr.ofField e.toField = e := by
  obtain ⟨b, u, p, x⟩ := e
  have h : ∀ (b u p : Bool) (x : BitVec 6),
      PtrExpr.ofField (PtrExpr.toField ⟨b, u, p, x⟩) = ⟨b, u, p, x⟩ := by decide
  exact h b u p x

namespace Laws.FieldsRoundTrip

/-- The fields the encoder writes for `i` decode to `i`. -/
def Statement (i : Instr) : Prop := ∀ f, encodeFields i = some f → decodeFields f = .ok i

theorem wrbyteDS (cond : Cond) (d src : CogAddr) : Statement (.wrbyteDS cond d src) := by
  rintro f ⟨⟩
  rfl

theorem wrbyteDPtr (cond : Cond) (d : CogAddr) (e : PtrExpr) : Statement (.wrbyteDPtr cond d e) := by
  rintro f ⟨⟩
  exact congrArg (fun e => Except.ok (Instr.wrbyteDPtr cond d e)) (PtrExpr.ofField_toField e)

theorem rdbyteDS (z : Bool) (cond : Cond) (d src : CogAddr) : Statement (.rdbyteDS z cond d src) := by
  rintro f ⟨⟩
  cases z <;> rfl

theorem rdbyteDPtr (z : Bool) (cond : Cond) (d : CogAddr) (e : PtrExpr) : Statement (.rdbyteDPtr z cond d e) := by
  rintro f ⟨⟩
  cases z <;> exact congrArg (fun e => Except.ok (Instr.rdbyteDPtr _ cond d e)) (PtrExpr.ofField_toField e)

theorem rdbytecDS (z : Bool) (cond : Cond) (d src : CogAddr) : Statement (.rdbytecDS z cond d src) := by
  rintro f ⟨⟩
  cases z <;> rfl

theorem rdbytecDPtr (z : Bool) (cond : Cond) (d : CogAddr) (e : PtrExpr) : Statement (.rdbytecDPtr z cond d e) := by
  rintro f ⟨⟩
  cases z <;> exact congrArg (fun e => Except.ok (Instr.rdbytecDPtr _ cond d e)) (PtrExpr.ofField_toField e)

theorem wrwordDS (cond : Cond) (d src : CogAddr) : Statement (.wrwordDS cond d src) := by
  rintro f ⟨⟩
  rfl

theorem wrwordDPtr (cond : Cond) (d : CogAddr) (e : PtrExpr) : Statement (.wrwordDPtr cond d e) := by
  rintro f ⟨⟩
  exact congrArg (fun e => Except.ok (Instr.wrwordDPtr cond d e)) (PtrExpr.ofField_toField e)

theorem rdwordDS (z : Bool) (cond : Cond) (d src : CogAddr) : Statement (.rdwordDS z cond d src) := by
  rintro f ⟨⟩
  cases z <;> rfl

theorem rdwordDPtr (z : Bool) (cond : Cond) (d : CogAddr) (e : PtrExpr) : Statement (.rdwordDPtr z cond d e) := by
  rintro f ⟨⟩
  cases z <;> exact congrArg (fun e => Except.ok (Instr.rdwordDPtr _ cond d e)) (PtrExpr.ofField_toField e)

theorem rdwordcDS (z : Bool) (cond : Cond) (d src : CogAddr) : Statement (.rdwordcDS z cond d src) := by
  rintro f ⟨⟩
  cases z <;> rfl

theorem rdwordcDPtr (z : Bool) (cond : Cond) (d : CogAddr) (e : PtrExpr) : Statement (.rdwordcDPtr z cond d e) := by
  rintro f ⟨⟩
  cases z <;> exact congrArg (fun e => Except.ok (Instr.rdwordcDPtr _ cond d e)) (PtrExpr.ofField_toField e)

theorem wrlongDS (cond : Cond) (d src : CogAddr) : Statement (.wrlongDS cond d src) := by
  rintro f ⟨⟩
  rfl

theorem wrlongDPtr (cond : Cond) (d : CogAddr) (e : PtrExpr) : Statement (.wrlongDPtr cond d e) := by
  rintro f ⟨⟩
  exact congrArg (fun e => Except.ok (Instr.wrlongDPtr cond d e)) (PtrExpr.ofField_toField e)

theorem rdlongDS (z : Bool) (cond : Cond) (d src : CogAddr) : Statement (.rdlongDS z cond d src) := by
  rintro f ⟨⟩
  cases z <;> rfl

theorem rdlongDPtr (z : Bool) (cond : Cond) (d : CogAddr) (e : PtrExpr) : Statement (.rdlongDPtr z cond d e) := by
  rintro f ⟨⟩
  cases z <;> exact congrArg (fun e => Except.ok (Instr.rdlongDPtr _ cond d e)) (PtrExpr.ofField_toField e)

theorem rdlongcDS (z : Bool) (cond : Cond) (d src : CogAddr) : Statement (.rdlongcDS z cond d src) := by
  rintro f ⟨⟩
  cases z <;> rfl

theorem rdlongcDPtr (z : Bool) (cond : Cond) (d : CogAddr) (e : PtrExpr) : Statement (.rdlongcDPtr z cond d e) := by
  rintro f ⟨⟩
  cases z <;> exact congrArg (fun e => Except.ok (Instr.rdlongcDPtr _ cond d e)) (PtrExpr.ofField_toField e)

theorem wrquadD (cond : Cond) (d : CogAddr) : Statement (.wrquadD cond d) := by
  rintro f ⟨⟩
  rfl

theorem wrquadPtr (cond : Cond) (e : PtrExpr) : Statement (.wrquadPtr cond e) := by
  rintro f ⟨⟩
  exact congrArg (fun e => Except.ok (Instr.wrquadPtr cond e)) (PtrExpr.ofField_toField e)

theorem rdquadD (cond : Cond) (d : CogAddr) : Statement (.rdquadD cond d) := by
  rintro f ⟨⟩
  rfl

theorem rdquadPtr (cond : Cond) (e : PtrExpr) : Statement (.rdquadPtr cond e) := by
  rintro f ⟨⟩
  exact congrArg (fun e => Except.ok (Instr.rdquadPtr cond e)) (PtrExpr.ofField_toField e)

theorem rdquadcD (cond : Cond) (d : CogAddr) : Statement (.rdquadcD cond d) := by
  rintro f ⟨⟩
  rfl

theorem rdquadcPtr (cond : Cond) (e : PtrExpr) : Statement (.rdquadcPtr cond e) := by
  rintro f ⟨⟩
  exact congrArg (fun e => Except.ok (Instr.rdquadcPtr cond e)) (PtrExpr.ofField_toField e)

theorem getptraD (z c r : Bool) (cond : Cond) (d : CogAddr) : Statement (.getptraD z c r cond d) := by
  rintro f ⟨⟩
  cases z <;> cases c <;> cases r <;> rfl

theorem getptrbD (z c r : Bool) (cond : Cond) (d : CogAddr) : Statement (.getptrbD z c r cond d) := by
  rintro f ⟨⟩
  cases z <;> cases c <;> cases r <;> rfl

theorem setptraD (cond : Cond) (d : CogAddr) : Statement (.setptraD cond d) := by
  rintro f ⟨⟩
  rfl

theorem setptraN (cond : Cond) (n : BitVec 9) : Statement (.setptraN cond n) := by
  rintro f ⟨⟩
  rfl

theorem setptrbD (cond : Cond) (d : CogAddr) : Statement (.setptrbD cond d) := by
  rintro f ⟨⟩
  rfl

theorem setptrbN (cond : Cond) (n : BitVec 9) : Statement (.setptrbN cond n) := by
  rintro f ⟨⟩
  rfl

theorem addptraD (cond : Cond) (d : CogAddr) : Statement (.addptraD cond d) := by
  rintro f ⟨⟩
  rfl

theorem addptraN (cond : Cond) (n : BitVec 9) : Statement (.addptraN cond n) := by
  rintro f ⟨⟩
  rfl

theorem addptrbD (cond : Cond) (d : CogAddr) : Statement (.addptrbD cond d) := by
  rintro f ⟨⟩
  rfl

theorem addptrbN (cond : Cond) (n : BitVec 9) : Statement (.addptrbN cond n) := by
  rintro f ⟨⟩
  rfl

theorem subptraD (cond : Cond) (d : CogAddr) : Statement (.subptraD cond d) := by
  rintro f ⟨⟩
  rfl

theorem subptraN (cond : Cond) (n : BitVec 9) : Statement (.subptraN cond n) := by
  rintro f ⟨⟩
  rfl

theorem subptrbD (cond : Cond) (d : CogAddr) : Statement (.subptrbD cond d) := by
  rintro f ⟨⟩
  rfl

theorem subptrbN (cond : Cond) (n : BitVec 9) : Statement (.subptrbN cond n) := by
  rintro f ⟨⟩
  rfl

theorem cachex (cond : Cond) : Statement (.cachex cond) := by
  rintro f ⟨⟩
  rfl

theorem gettopsD (z : Bool) (cond : Cond) (d : CogAddr) : Statement (.gettopsD z cond d) := by
  rintro f ⟨⟩
  cases z <;> rfl

theorem setquadD (cond : Cond) (d : CogAddr) : Statement (.setquadD cond d) := by
  rintro f ⟨⟩
  rfl

theorem setquadN (cond : Cond) (n : BitVec 9) : Statement (.setquadN cond n) := by
  rintro f ⟨⟩
  rfl

theorem settaskN (n : Long) : Statement (.settaskN n) := by
  rintro f ⟨⟩

theorem settaskD (d : CogAddr) : Statement (.settaskD d) := by
  rintro f ⟨⟩

theorem jmptask (a m : TaskOperand) : Statement (.jmptask a m) := by
  rintro f ⟨⟩

theorem jmpA (a : Long) : Statement (.jmpA a) := by
  rintro f ⟨⟩

theorem notpN (n : Long) : Statement (.notpN n) := by
  rintro f ⟨⟩

end Laws.FieldsRoundTrip

end Sys2Proof
end

