-- ==== Sys2Proof/Tests/Slice0.lean ====
section
/-!
SUPPORT. The model's own tests. Expected results come from 95_test_vectors.md, from the encodings that
30_encoding.md and the instruction rules print, or by hand from the rule a test names. The last part
shows, for every statement with hypotheses, that something meets them.
-/

namespace Sys2Proof.Tests

open Sys2Proof Sys2Proof.Machine

/-! ## Helpers -/

/-- R[a] <- v, as a loader places it: no write of this run (R267). -/
def put (a : CogAddr) (v : Long) (s : State) : State := { s with regs := s.regs.set a.toNat (.long v) a.isLt }

/-- The cog at reset with `w` as its next instruction. -/
def cog (w : Nat) : State := State.reset.withFetchWord 32 w

/-- The cog with `w` as its next instruction, x[$020] = $12345678 and a value in x[$021]
(95_test_vectors.md, section 2). -/
def cog21 (w : Nat) (v : Long) : State := put 0x021#9 v (put 0x020#9 0x12345678#32 (cog w))

/-- The cog with an abstract word as its next instruction. -/
def cogTerm (t : TaskTerm) : State := { State.reset with regs := State.reset.regs.set 0 (.term t) }

/-- Something of the state after one step. -/
def after {α : Type} (s : State) (f : State → α) : Option α :=
  match step s with
  | .next t => some (f t)
  | _ => none

/-- The fault of a step. -/
def faultOf (s : State) : Option Fault :=
  match step s with
  | .fault f => some f
  | _ => none

/-- The refusal of a step. -/
def refusalOf (s : State) : Option Refusal :=
  match step s with
  | .refused r => some r
  | _ => none

/-- The quad at $00000 and the quad at $00010 of the ROM (R61, the dump of 95_test_vectors.md 1.7). -/
def quad0 : Vector Long 4 := #v[0x706F7250#32, 0x20302E32#32, 0x0C7C2000#32, 0x0C7CCC03#32]
def quad1 : Vector Long 4 := #v[0x0DC1FE45#32, 0x0CFCB6E3#32, 0x0C7CC601#32, 0x0D7CC601#32]

/-- The state with the window at $00010 cached. -/
def warm (s : State) : State := { s with quads := quad1, cv := true, ctag := 1#13 }

/-! ## Well-formedness: each form without an encoding is refused (R113), and the admitted subset -/

theorem test_settaskN_ill_formed : ¬ (Instr.settaskN 0xE4#32).WellFormed := by decide
theorem test_settaskD_ill_formed : ¬ (Instr.settaskD 0x030#9).WellFormed := by decide
theorem test_jmptask_ill_formed : ¬ (Instr.jmptask (.lit 0x040#32) (.lit 0b1110#32)).WellFormed := by decide
theorem test_jmpA_ill_formed : ¬ (Instr.jmpA 0x009#32).WellFormed := by decide
theorem test_notpN_ill_formed : ¬ (Instr.notpN 3#32).WellFormed := by decide
theorem test_cachex_well_formed : (Instr.cachex 15#4).WellFormed := by decide
theorem test_cond_not_admitted : (Instr.cachex 14#4).admitted = false := by decide
theorem test_zb_not_admitted : (Instr.rdbyteDS true 15#4 0x020#9 0x021#9).admitted = false := by decide
theorem test_getptr_without_rb_not_admitted :
    (Instr.getptraD false false false 15#4 0x020#9).admitted = false := by decide
theorem test_getptr_with_cb_not_admitted :
    (Instr.getptraD false true true 15#4 0x020#9).admitted = false := by decide
theorem test_admitted : (Instr.getptraD false false true 15#4 0x020#9).admitted = true := by decide

/-! ## Decoding: each encoded form, its word written out from the pattern the spec prints -/

theorem test_decode_wrbyteDS :
    decode 0b000000_000_0_1111_000100000_000100001#32 = .ok (.wrbyteDS 15#4 0x020#9 0x021#9) := by decide
theorem test_decode_wrbyteDPtr :
    decode 0b000000_000_1_1111_000100000_010111111#32 = .ok (.wrbyteDPtr 15#4 0x020#9 ⟨false, true, false, -1#6⟩) := by decide
theorem test_decode_rdbyteDS :
    decode 0b000000_101_0_0000_000100000_000100001#32 = .ok (.rdbyteDS true 0#4 0x020#9 0x021#9) := by decide
theorem test_decode_rdbyteDPtr :
    decode 0b000000_001_1_1111_000100000_001000101#32 = .ok (.rdbyteDPtr false 15#4 0x020#9 ⟨false, false, true, 5#6⟩) := by decide
theorem test_decode_rdbytecDS :
    decode 0b000000_011_0_1111_000100000_000100001#32 = .ok (.rdbytecDS false 15#4 0x020#9 0x021#9) := by decide
theorem test_decode_rdbytecDPtr :
    decode 0b000000_111_1_1010_111111111_111100000#32 = .ok (.rdbytecDPtr true 10#4 0x1FF#9 ⟨true, true, true, -32#6⟩) := by decide
theorem test_decode_wrwordDS :
    decode 0b000001_000_0_1111_000100000_000100001#32 = .ok (.wrwordDS 15#4 0x020#9 0x021#9) := by decide
theorem test_decode_wrwordDPtr :
    decode 0b000001_000_1_1111_000100000_111000001#32 = .ok (.wrwordDPtr 15#4 0x020#9 ⟨true, true, true, 1#6⟩) := by decide
theorem test_decode_rdwordDS :
    decode 0b000001_001_0_1111_000100000_000100001#32 = .ok (.rdwordDS false 15#4 0x020#9 0x021#9) := by decide
theorem test_decode_rdwordDPtr :
    decode 0b000001_001_1_1111_000100000_110110110#32 = .ok (.rdwordDPtr false 15#4 0x020#9 ⟨true, true, false, -10#6⟩) := by decide
theorem test_decode_rdwordcDS :
    decode 0b000001_011_0_1111_000100000_000100001#32 = .ok (.rdwordcDS false 15#4 0x020#9 0x021#9) := by decide
theorem test_decode_rdwordcDPtr :
    decode 0b000001_011_1_1111_000100011_000000000#32 = .ok (.rdwordcDPtr false 15#4 0x023#9 ⟨false, false, false, 0#6⟩) := by decide
theorem test_decode_wrlongDS :
    decode 0b000010_000_0_1111_000100000_000100001#32 = .ok (.wrlongDS 15#4 0x020#9 0x021#9) := by decide
theorem test_decode_wrlongDPtr :
    decode 0b000010_000_1_1111_111110001_100000000#32 = .ok (.wrlongDPtr 15#4 0x1F1#9 ⟨true, false, false, 0#6⟩) := by decide
theorem test_decode_rdlongDS :
    decode 0b000010_001_0_1111_000100000_000100001#32 = .ok (.rdlongDS false 15#4 0x020#9 0x021#9) := by decide
theorem test_decode_rdlongDPtr :
    decode 0b000010_001_1_1111_000100000_011111111#32 = .ok (.rdlongDPtr false 15#4 0x020#9 ⟨false, true, true, -1#6⟩) := by decide
theorem test_decode_rdlongcDS :
    decode 0b000010_011_0_1111_000100000_000100001#32 = .ok (.rdlongcDS false 15#4 0x020#9 0x021#9) := by decide
theorem test_decode_rdlongcDPtr :
    decode 0b000010_011_1_1111_000100000_011001111#32 = .ok (.rdlongcDPtr false 15#4 0x020#9 ⟨false, true, true, 15#6⟩) := by decide
theorem test_decode_wrquadD :
    decode 0b000011_000_0_1111_000100001_010110000#32 = .ok (.wrquadD 15#4 0x021#9) := by decide
theorem test_decode_wrquadPtr :
    decode 0b000011_001_1_1111_111111101_010110000#32 = .ok (.wrquadPtr 15#4 ⟨true, true, true, -3#6⟩) := by decide
theorem test_decode_rdquadD :
    decode 0b000011_000_0_1111_000100001_010110001#32 = .ok (.rdquadD 15#4 0x021#9) := by decide
theorem test_decode_rdquadPtr :
    decode 0b000011_001_1_1111_110000001_010110001#32 = .ok (.rdquadPtr 15#4 ⟨true, true, false, 1#6⟩) := by decide
theorem test_decode_rdquadcD :
    decode 0b000011_010_0_1111_000100001_010110001#32 = .ok (.rdquadcD 15#4 0x021#9) := by decide
theorem test_decode_rdquadcPtr :
    decode 0b000011_011_1_1111_000000000_010110001#32 = .ok (.rdquadcPtr 15#4 ⟨false, false, false, 0#6⟩) := by decide
theorem test_decode_getptraD :
    decode 0b000011_101_1_1111_000100000_000010010#32 = .ok (.getptraD true false true 15#4 0x020#9) := by decide
theorem test_decode_getptrbD :
    decode 0b000011_010_1_1111_000100000_000010011#32 = .ok (.getptrbD false true false 15#4 0x020#9) := by decide
theorem test_decode_setptraD :
    decode 0b000011_000_1_1111_000100000_010110010#32 = .ok (.setptraD 15#4 0x020#9) := by decide
theorem test_decode_setptraN :
    decode 0b000011_001_1_1111_111111111_010110010#32 = .ok (.setptraN 15#4 0x1FF#9) := by decide
theorem test_decode_setptrbD :
    decode 0b000011_000_1_1111_000010000_010110011#32 = .ok (.setptrbD 15#4 0x010#9) := by decide
theorem test_decode_setptrbN :
    decode 0b000011_001_1_1111_000010000_010110011#32 = .ok (.setptrbN 15#4 16#9) := by decide
theorem test_decode_addptraD :
    decode 0b000011_000_1_1111_000100000_010110100#32 = .ok (.addptraD 15#4 0x020#9) := by decide
theorem test_decode_addptraN :
    decode 0b000011_001_1_1111_000000100_010110100#32 = .ok (.addptraN 15#4 4#9) := by decide
theorem test_decode_addptrbD :
    decode 0b000011_000_1_1111_000100000_010110101#32 = .ok (.addptrbD 15#4 0x020#9) := by decide
theorem test_decode_addptrbN :
    decode 0b000011_001_1_1111_000010000_010110101#32 = .ok (.addptrbN 15#4 16#9) := by decide
theorem test_decode_subptraD :
    decode 0b000011_000_1_1111_000100000_010110110#32 = .ok (.subptraD 15#4 0x020#9) := by decide
theorem test_decode_subptraN :
    decode 0b000011_001_1_1111_000000100_010110110#32 = .ok (.subptraN 15#4 4#9) := by decide
theorem test_decode_subptrbD :
    decode 0b000011_000_1_1111_000100000_010110111#32 = .ok (.subptrbD 15#4 0x020#9) := by decide
theorem test_decode_subptrbN :
    decode 0b000011_001_1_1111_111111111_010110111#32 = .ok (.subptrbN 15#4 0x1FF#9) := by decide
theorem test_decode_cachex :
    decode 0b000011_000_1_1111_000000000_000001000#32 = .ok (.cachex 15#4) := by decide
theorem test_decode_gettopsD :
    decode 0b000011_001_1_1111_000100000_000010001#32 = .ok (.gettopsD false 15#4 0x020#9) := by decide
theorem test_decode_setquadD :
    decode 0b000011_000_1_1111_000100000_011100010#32 = .ok (.setquadD 15#4 0x020#9) := by decide
theorem test_decode_setquadN :
    decode 0b000011_001_1_1111_111110000_011100010#32 = .ok (.setquadN 15#4 0x1F0#9) := by decide

/-! Words that no row matches (95_test_vectors.md 2.1), one for each reason. -/

theorem test_decode_flag_bits : decode 0x013C4021#32 = .error .flagBits := by decide
theorem test_decode_cachex_field : decode 0x0C7C0208#32 = .error .cachexField := by decide
theorem test_decode_wrquad_with_i : decode 0x0C7C42B0#32 = .error .operandForm := by decide
theorem test_decode_function_code : decode 0x0CFC40E3#32 = .error .functionCode := by decide
theorem test_decode_major_opcode : decode 0x10000000#32 = .error .majorOpcode := by decide
theorem test_decode_rom_text : decode 0x706F7250#32 = .error .majorOpcode := by decide
theorem test_decodeTableWord : decodeTableWord 32 0x0C7C0008 = some (.cachex 15#4) := by decide
theorem test_encode_setquad : encode (.setquadN 15#4 0x1F0#9) = some 0x0CFFE0E2#32 := by decide

/-- The default condition table is the reading of R104: COND executes when its bit 2*C + Z is 1. -/
theorem test_condTable_default : ∀ (cond : Cond) (c z : Bool),
    condHolds Params.default cond c z = cond.getLsbD (2 * c.toNat + z.toNat) := by decide

/-! ## Memory (R61 to R65; the dump of 95_test_vectors.md 1.7) -/

theorem test_read_byte_5 : Memory.read [] .byte 0x00005#17 = some 0x2E#32 := by decide
theorem test_read_word_1E : Memory.read [] .word 0x0001E#17 = some 0x0D7C#32 := by decide
theorem test_read_long_7 : Memory.read [] .long 0x00007#17 = some 0x20302E32#32 := by decide
theorem test_read_quad_1F : Memory.readQuad [] 0x0001F#17 = some quad1 := by decide
theorem test_read_unwritten : Memory.read [] .byte 0x1FFFF#17 = none := by decide
theorem test_write_sorts : Memory.setBytes [(0x1001, 1#8)] 0x1000 [7#8] = [(0x1000, 7#8), (0x1001, 1#8)] := by
  decide
theorem test_wf_refuses_unsorted : Memory.wf [(0x1001, 1#8), (0x1000, 7#8)] = false := by decide
theorem test_wf_refuses_rom : Memory.wf [(0x00E7F, 1#8)] = false := by decide
theorem test_wf_refuses_beyond : Memory.wf [(0x20000, 1#8)] = false := by decide

/-! ## Bytes, words and longs (95_test_vectors.md 2.3, 1.5) -/

theorem test_wrbyteDS : after (cog21 0x003C4021 0x00001003#32) (·.hub) = some [(0x1003, 0x78#8)] := by decide
theorem test_wrbyteDS_rom : refusalOf (cog21 0x003C4021 0x00000E7F#32) = some .romWrite := by decide
theorem test_wrbyteDPtr : after { cog21 0x007C40BF 0#32 with ptra := 0x01000#17 } (fun t => (t.hub, t.ptra))
    = some ([(0x0FFF, 0x78#8)], 0x00FFF#17) := by decide
theorem test_rdbyteDS : after (cog21 0x00BC4021 0xFFFE0005#32) (·.x 0x020#9) = some 0x2E#32 := by decide
theorem test_rdbyteDS_z : after (cog21 0x02BC4021 0x00000008#32) (fun t => (t.x 0x020#9, t.flags[0].z))
    = some (0#32, true) := by decide
theorem test_rdbyteDPtr_wraps : after
    { cog 0x00FC40BF with ptra := 0x00000#17, hub := [(0x1FFFF, 0xAB#8)] }
    (fun t => (t.x 0x020#9, t.ptra)) = some (0xAB#32, 0x1FFFF#17) := by decide
theorem test_rdbyteDPtr_post_without_update : after { cog 0x00FC4045 with ptra := 0x00005#17 }
    (fun t => (t.x 0x020#9, t.ptra)) = some (0x2E#32, 0x00005#17) := by decide
/-- The same expression under the ruling D36: the byte at $00005 + 5 is addressed. -/
theorem test_ptrAddress_by_ruling : ptrAddress ⟨false, false, true, 5#6⟩ 1
    { State.reset with ptra := 0x00005#17, params := { Params.default with pIgnoredWithoutU := true } }
    = 0x0000A#17 := by decide
theorem test_rdbytecDS_fills : after (cog21 0x01BC4021 0x00000011#32)
    (fun t => (t.quads, t.cv, t.ctag, t.x 0x020#9, t.qds, t.qex)) = some (quad1, true, 1#13, 0xFE#32, 3, 5) := by
  decide
theorem test_rdbytecDS_stale : faultOf { warm (cog21 0x01BC4021 0x00000011#32) with windowWritten := true }
    = some .staleCacheHit := by decide
theorem test_rdbytecDPtr : after { warm (cog 0x01FC4A00) with ptra := 0x0001E#17 } (·.x 0x025#9)
    = some 0x7C#32 := by decide
theorem test_wrwordDS : after (cog21 0x043C4021 0x00001003#32) (·.hub)
    = some [(0x1002, 0x78#8), (0x1003, 0x56#8)] := by decide
theorem test_wrwordDPtr : after { cog21 0x047C4107 0#32 with ptrb := 0x02000#17 } (fun t => (t.hub, t.ptrb))
    = some ([(0x200E, 0x78#8), (0x200F, 0x56#8)], 0x02000#17) := by decide
theorem test_rdwordDS : after (cog21 0x04BC4021 0x00000001#32) (·.x 0x020#9) = some 0x7250#32 := by decide
theorem test_rdwordDPtr : after
    { cog 0x04FC4120 with ptrb := 0x01000#17, hub := [(0x0FC0, 0x10#8), (0x0FC1, 0x11#8)] }
    (fun t => (t.x 0x020#9, t.ptrb)) = some (0x1110#32, 0x01000#17) := by decide
theorem test_rdwordcDS : after (warm (cog21 0x05BC4021 0x0000001E#32)) (·.x 0x020#9) = some 0x0D7C#32 := by
  decide
theorem test_rdwordcDPtr : after { warm (cog 0x05FC4600) with ptra := 0x0001C#17 } (·.x 0x023#9)
    = some 0xC601#32 := by decide
theorem test_wrlongDS_last : after (cog21 0x083C4021 0x0001FFFF#32) (·.hub)
    = some [(0x1FFFC, 0x78#8), (0x1FFFD, 0x56#8), (0x1FFFE, 0x34#8), (0x1FFFF, 0x12#8)] := by decide
theorem test_wrlongDS_first : after (cog21 0x083C4021 0xFFFE0E82#32) (·.hub.longAt 0x00E80)
    = some (some 0x12345678#32) := by decide
theorem test_wrlongDPtr_keeps_low_bits : after { cog21 0x087C41C1 0#32 with ptrb := 0x01002#17 }
    (fun t => (t.hub.longAt 0x1000, t.ptrb)) = some (some 0x12345678#32, 0x01006#17) := by decide
theorem test_wrlongDPtr_of_quad : after
    { cog 0x087FE300 with qbase := 0x1F0#9, quads := quad0, ptrb := 0x01000#17 }
    (·.hub.longAt 0x1000) = some (some 0x20302E32#32) := by decide
theorem test_rdlongDS_same_register : after (put 0x020#9 0x00000010#32 (cog 0x08BC4020)) (·.x 0x020#9)
    = some 0x0DC1FE45#32 := by decide
theorem test_rdlongDS_unwritten : faultOf (cog21 0x08BC4021 0x00000E80#32) = some .hubByteUnwritten := by
  decide
theorem test_rdlongDPtr : after { cog 0x08FC40E0 with ptra := 0x00010#17 } (fun t => (t.x 0x020#9, t.ptra))
    = some (0x0DC1FE45#32, 0x1FF90#17) := by decide
theorem test_rdlongcDS : after (warm (cog21 0x09BC4021 0x00000017#32)) (·.x 0x020#9)
    = some 0x0CFCB6E3#32 := by decide
theorem test_rdlongcDPtr : after { cog 0x09FC44C1 with ptra := 0x00010#17 }
    (fun t => (t.x 0x022#9, t.ptra, t.quads)) = some (0x0DC1FE45#32, 0x00014#17, quad1) := by decide
/-- R266: the data a miss returns to D is not subject to the delay, even where D is Q[2]. -/
theorem test_rdlongcDPtr_miss_into_early_quad : after
    { cog 0x09FC44C1 with ptra := 0x00010#17, qbase := 0x020#9, qds := 3, qex := 5 }
    (fun t => (t.quads, t.qds)) = some (quad1.set 2 0x0DC1FE45#32, 3) := by decide

/-! ## Quads (95_test_vectors.md 2.4, 2.5, 2.8) -/

theorem test_wrquadD : after { cog21 0x0C3C42B0 0x00000E8F#32 with quads := #v[1#32, 2#32, 3#32, 4#32] }
    (·.hub.quadAt 0x00E80) = some (some #v[1#32, 2#32, 3#32, 4#32]) := by decide
theorem test_wrquadD_rom : refusalOf (cog21 0x0C3C42B0 0x00000E7F#32) = some .romWrite := by decide
theorem test_wrquadPtr : after { warm (cog 0x0CFFFAB0) with ptrb := 0x02000#17 }
    (fun t => (t.hub.quadAt 0x2000, t.ptrb)) = some (some quad1, 0x01FD0#17) := by decide
theorem test_rdquadD : after (cog21 0x0C3C42B1 0x0000000B#32) (fun t => (t.quads, t.cv, t.ctag))
    = some (quad0, true, 0#13) := by decide
theorem test_rdquadD_not_validating : after { warm (cog21 0x0C3C42B1 0x0000000B#32) with
    params := { Params.default with explicitRdquadValidates := false } } (fun t => (t.quads, t.cv))
    = some (quad0, false) := by decide
theorem test_rdquadPtr_wraps : after { cog 0x0CFF02B1 with ptrb := 0x1FFF8#17 } (fun t => (t.quads, t.ptrb))
    = some (quad0, 0x00008#17) := by decide
theorem test_rdquadcD_hit : after { warm (cog21 0x0D3C42B1 0x00000010#32) with quads := #v[1, 2, 3, 4] }
    (fun t => (t.quads, t.qds)) = some (#v[1, 2, 3, 4], 0) := by decide
theorem test_rdquadcD_early : faultOf { warm (cog21 0x0D3C42B1 0x00000010#32) with qds := 2, qex := 4 }
    = some .quadNotReady := by decide
theorem test_rdquadcPtr_miss : after { warm (cog 0x0DFC00B1) with ptra := 0x0000F#17 }
    (fun t => (t.quads, t.ctag, t.ptra)) = some (quad0, 0#13, 0x0000F#17) := by decide

/-! ## Pointers (95_test_vectors.md 2.6) -/

theorem test_getptraD : after { cog 0x0CFC4012 with ptra := 0x1ABCD#17 } (·.x 0x020#9)
    = some 0x0001ABCD#32 := by decide
theorem test_getptraD_without_result : after (put 0x020#9 7#32 (cog 0x0C7C4012)) (·.x 0x020#9)
    = some 7#32 := by decide
theorem test_getptrbD : after { cog 0x0CFC4013 with ptrb := 0x00E80#17 } (·.x 0x020#9)
    = some 0x00000E80#32 := by decide
theorem test_getptrbD_draws : after (cog 0x0DFC4013) (fun t => (t.flags[0].c, t.draws))
    = some (Config.freeBit 0, 1) := by rfl
theorem test_setptraD : after (put 0x020#9 0xFFFE1234#32 (cog 0x0C7C40B2)) (·.ptra) = some 0x01234#17 := by
  decide
theorem test_setptraN : after (cog 0x0CFFFEB2) (·.ptra) = some 0x001FF#17 := by decide
theorem test_setptrbD : after (put 0x010#9 0xFFFE1000#32 (cog 0x0C7C20B3)) (·.ptrb) = some 0x01000#17 := by
  decide
theorem test_setptrbN : after (cog 0x0CFC20B3) (·.ptrb) = some 0x00010#17 := by decide
theorem test_addptraD : after { put 0x020#9 0x00020003#32 (cog 0x0C7C40B4) with ptra := 0x1FFFF#17 } (·.ptra)
    = some 0x00002#17 := by decide
theorem test_addptraN : after { cog 0x0CFC08B4 with ptra := 0x1FFFE#17 } (·.ptra) = some 0x00002#17 := by decide
theorem test_addptrbD : after { put 0x020#9 0xFFFFFFFC#32 (cog 0x0C7C40B5) with ptrb := 0x01000#17 } (·.ptrb)
    = some 0x00FFC#17 := by decide
theorem test_addptrbN : after { cog 0x0CFC20B5 with ptrb := 0x01000#17 } (·.ptrb) = some 0x01010#17 := by decide
theorem test_subptraD : after { put 0x020#9 0x00020001#32 (cog 0x0C7C40B6) with ptra := 0x00000#17 } (·.ptra)
    = some 0x1FFFF#17 := by decide
theorem test_subptraN : after { cog 0x0CFC08B6 with ptra := 0x00002#17 } (·.ptra) = some 0x1FFFE#17 := by decide
theorem test_subptrbD : after { put 0x020#9 0x00000004#32 (cog 0x0C7C40B7) with ptrb := 0x00002#17 } (·.ptrb)
    = some 0x1FFFE#17 := by decide
theorem test_subptrbN : after { cog 0x0CFFFEB7 with ptrb := 0x01000#17 } (·.ptrb) = some 0x00E01#17 := by decide

/-! ## QUADs (95_test_vectors.md 2.7, 2.8) -/

theorem test_cachex : after (warm (cog 0x0C7C0008)) (fun t => (t.cv, t.ctag, t.quads))
    = some (false, 1#13, quad1) := by decide
theorem test_gettopsD : after { cog 0x0CFC4011 with quads := quad0 } (·.x 0x020#9)
    = some 0x0C0C2070#32 := by decide
theorem test_gettopsD_reversed : after { cog 0x0CFC4011 with
    quads := quad0, params := { Params.default with topsOrder := .reversed } } (·.x 0x020#9)
    = some 0x70200C0C#32 := by decide
theorem test_setquadD : after (put 0x020#9 0xABCDE204#32 (cog 0x0C7C40E2))
    (fun t => (t.qbase, t.x 0x006#9 == t.quads[2])) = some (0x004#9, true) := by decide
theorem test_setquadN_hides : after { cog 0x0CFFFCE2 with qbase := 0x1F0#9 }
    (fun t => (t.qbase, t.quadsMapped)) = some (0x1FE#9, false) := by decide
theorem test_overlay : ({ put 0x1F2#9 0xBBBBBBBB#32 State.reset with
    qbase := 0x1F0#9, quads := #v[0, 0, 0xAAAAAAAA#32, 0] } : State).x 0x1F2#9 = 0xAAAAAAAA#32 := by decide
theorem test_gettops_early : faultOf { cog 0x0CFC4011 with qds := 2, qex := 4 } = some .quadNotReady := by
  decide
theorem test_fetch_quad_early : faultOf { cog 0 with qbase := 0#9, qds := 0, qex := 2 }
    = some .quadNotExecutable := by decide
theorem test_fetch_quad : after { cog 0 with qbase := 0#9, quads := #v[0x0CFC00B2, 0, 0, 0], qex := 1 } (·.ptra)
    = some 0#17 := by decide

/-- R72: GETPTRA $004 with the QUADs mapped at $004 is recorded at Q[0], and a fill clears the record. -/
theorem test_quad_write_recorded : after { cog 0x0CFC0812 with qbase := 4#9 } (·.quadWrittenAt)
    = some #v[some 1, none, none, none] := by decide
theorem test_fill_clears_the_record : after { cog21 0x0C3C42B1 0x0000000B#32 with
    quadWrittenAt := #v[some 0, some 0, some 0, some 0] } (·.quadWrittenAt)
    = some #v[none, none, none, none] := by decide
/-- R72: the next step does not fetch what was just written to a mapped QUAD, unless ExecAfterWrite allows. -/
theorem test_fetch_written_quad : faultOf { State.reset with
    qbase := 0#9, quads := #v[0x0CFC00B2, 0, 0, 0], quadWrittenAt := #v[some 0, none, none, none] }
    = some .fetchAfterWrite := by decide
theorem test_fetch_written_quad_allowed : after { State.reset with
    qbase := 0#9, quads := #v[0x0CFC00B2, 0, 0, 0], quadWrittenAt := #v[some 0, none, none, none],
    params := { Params.default with execAfterWrite := some 0 } } (·.ptra) = some 0#17 := by decide

/-! ## Tasks (95_test_vectors.md 2.2) -/

theorem test_settaskN : after (cogTerm (.settaskN 0x1E4#32)) (·.task) = some 0x39393939#32 := by decide
theorem test_settaskN_not_rotating : after { cogTerm (.settaskN 0xE4#32) with
    params := { Params.default with settaskRotates := false } } (·.task) = some 0xE4E4E4E4#32 := by decide
theorem test_settaskD : after (put 0x030#9 0xFFFF0000#32 (cogTerm (.settaskD 0x030#9))) (·.task)
    = some 0x3FFFC000#32 := by decide
theorem test_jmptask : after (cogTerm (.jmptask (.lit 0x240#32) (.lit 0b11000#32))) (·.pcs)
    = some #v[0x001#9, 0x001#9, 0x002#9, 0x040#9] := by decide
theorem test_jmptask_own : after (put 0x030#9 0x00000001#32 (cogTerm (.jmptask (.lit 0x040#32) (.reg 0x030#9))))
    (·.pcs) = some #v[0x040#9, 0x001#9, 0x002#9, 0x003#9] := by decide
theorem test_jmpA : after (cogTerm (.jmpA 0x209#32)) (·.pcs)
    = some #v[0x009#9, 0x001#9, 0x002#9, 0x003#9] := by decide
theorem test_notpN : after (cogTerm (.notpN 3#32)) (·.out) = some 7 := by decide
theorem test_notpN_no_pin : refusalOf (cogTerm (.notpN 4#32)) = some .noSuchPin := by decide
theorem test_task_rotates : after { cog 0x0C7C0008 with task := 0xE4E4E4E4#32 } (·.task)
    = some 0x39393939#32 := by decide
theorem test_pc_wraps : after { put 0x1FF#9 0x0C7C0008#32 State.reset with
    task := 0x00000001#32, pcs := #v[0#9, 0x1FF#9, 2#9, 3#9] } (fun t => (t.pcs, t.task))
    = some (#v[0#9, 0#9, 2#9, 3#9], 0x40000000#32) := by decide +kernel
theorem test_condition_false : after (put 0x020#9 7#32 (cog 0x0CC04012)) (fun t => (t.x 0x020#9, t.pc))
    = some (7#32, 0x001#9) := by decide

/-! ## Witnesses: what meets the hypotheses of each statement, clause by clause -/

/-- Something of the state an instruction leaves. -/
def afterExec {α : Type} (i : Instr) (s : State) (f : State → α) : Option α :=
  match exec i s with
  | .next t => some (f t)
  | _ => none

/-- A step that answers a next state with a property. -/
theorem step_answers {s : State} (p : State → Prop) [DecidablePred p]
    (h : after s (fun t => decide (p t)) = some true) : ∃ t, step s = .next t ∧ p t := by
  unfold after at h
  cases hs : step s with
  | next t => simp [hs] at h; exact ⟨t, rfl, h⟩
  | fault f => simp [hs] at h
  | refused r => simp [hs] at h

/-- An instruction that answers a next state with a property. -/
theorem exec_answers {i : Instr} {s : State} (p : State → Prop) [DecidablePred p]
    (h : afterExec i s (fun t => decide (p t)) = some true) : ∃ t, exec i s = .next t ∧ p t := by
  unfold afterExec at h
  cases hs : exec i s with
  | next t => simp [hs] at h; exact ⟨t, rfl, h⟩
  | fault f => simp [hs] at h
  | refused r => simp [hs] at h

/-- The reset state with the hub address `a` in x[$021], in PTRA and in PTRB. -/
def atAddr (a : HubAddr) : State :=
  { put 0x021#9 (a.setWidth 32) State.reset with ptra := a, ptrb := a }

/-- PTRA, kept. -/
def atPtra : PtrExpr := ⟨false, false, true, 0#6⟩

theorem witness_DecodeOfEncodeIsIdentity : (Instr.getptraD true true true 0#4 0x1FF#9).WellFormed := by decide
theorem witness_EncodeOfDecodeIsIdentity : decode 0x0C7C0008#32 = .ok (.cachex 15#4) := by decide
theorem witness_DecoderAcceptsExactlyTheTableRows :
    ∃ row ∈ opcodeTable, row.accepts 0x0C7C0008#32 = true := by decide

theorem witness_UnlistedWordIsRefused :
    beginSlot State.reset = .next State.reset.tick ∧
    State.reset.tick.word State.reset.tick.pc = .long 0xFFFFFFFF#32 ∧
    fetchable State.reset.tick State.reset.tick.pc ∧
    ∀ row ∈ opcodeTable, row.accepts 0xFFFFFFFF#32 = false := by
  refine ⟨rfl, by decide, ?_, by decide⟩
  unfold fetchable
  decide

theorem witness_StepRunsDecodedInstruction : (cog 0x0C7C0008).others = [] ∧
    (cog 0x0C7C0008).tick.word (cog 0x0C7C0008).pc = .long 0x0C7C0008#32 ∧
    decode 0x0C7C0008#32 = .ok (.cachex 15#4) ∧
    fetchable (cog 0x0C7C0008).tick (cog 0x0C7C0008).pc := by
  refine ⟨by decide, by decide, by decide, ?_⟩
  unfold fetchable
  decide

theorem witness_StepRunsPlacedTerm : (cogTerm (.jmpA 9#32)).others = [] ∧
    (cogTerm (.jmpA 9#32)).tick.word (cogTerm (.jmpA 9#32)).pc = .term (.jmpA 9#32) ∧
    fetchable (cogTerm (.jmpA 9#32)).tick (cogTerm (.jmpA 9#32)).pc := by
  refine ⟨by decide, by decide, ?_⟩
  unfold fetchable
  decide

theorem witness_OtherCogsReachOnlyTheHub_ram :
    ∃ t, beginSlot { State.reset with others := [[.unit .byte 0x00E80#17 1#32]] } = .next t := ⟨_, rfl⟩
theorem witness_OtherCogsReachOnlyTheHub_rom :
    applyWrites [.unit .byte 0x00E7F#17 1#32] State.reset.hub = none := by decide

theorem witness_ProgramCountersMoveOnlyAsRuled :
    (∃ t, step (cog 0x0C7C0008) = .next t ∧ t.pcs[(0 : TaskId)] = 1#9) ∧
    (∃ t, step (cogTerm (.jmpA 9#32)) = .next t ∧ t.pcs[(0 : TaskId)] = 9#9) ∧
    ∃ t, step (cogTerm (.jmptask (.lit 0x040#32) (.lit 8#32))) = .next t ∧ t.pcs[(3 : TaskId)] = 0x040#9 :=
  ⟨step_answers _ (by decide), step_answers _ (by decide), step_answers _ (by decide)⟩

theorem witness_TaskRotatesUnlessSettask : (∃ t, step (cog 0x0C7C0008) = .next t ∧ True) ∧
    (cog 0x0C7C0008).nextInstr = some (.cachex 15#4) ∧ isSettask (.cachex 15#4) = false :=
  ⟨step_answers _ (by decide), by decide, by decide⟩

theorem witness_TaskAfterStepsIsRotation : State.NoSettaskFor 1 (cog 0x0C7C0008) ∧
    ∃ t, Host.Core.run Sys2Proof.core 1 (cog 0x0C7C0008) = .next t := by
  refine ⟨⟨fun i h => ?_, fun _ _ => trivial⟩, ⟨_, rfl⟩⟩
  have : (cog 0x0C7C0008).nextInstr = some (.cachex 15#4) := by decide
  rw [this] at h
  cases h
  decide

/-- The cog with the QUADs mapped at $000, so that its next word comes from Q[0]. -/
def fromQuad (qex : Nat) : State :=
  { State.reset with qbase := 0#9, quads := #v[0x0C7C0008#32, 0, 0, 0], qex := qex }

theorem witness_EarlyFetchFaults_quad : beginSlot (fromQuad 2) = .next (fromQuad 2).tick ∧
    (fromQuad 2).tick.overlaid (fromQuad 2).tick.pc = true ∧ 0 < (fromQuad 2).tick.qex := by
  exact ⟨rfl, by decide, by decide⟩

/-- The cog after step `k` of the run wrote the location it fetches in step 3, with ExecAfterWrite `n`. -/
def rewritten (k : Nat) (n : Option Nat) : State :=
  { cog 0x0C7C0008 with
    writtenAt := Vector.replicate 512 (some k), steps := 2
    params := { Params.default with execAfterWrite := n } }

/-- The same for a location that is a mapped QUAD. -/
def rewrittenQuad (k : Nat) (n : Option Nat) : State :=
  { fromQuad 0 with
    quadWrittenAt := Vector.replicate 4 (some k), steps := 2
    params := { Params.default with execAfterWrite := n } }

/-- Not written; written, with ExecAfterWrite not given; just too recent (3 <= 2 + 1); just old enough
(1 + 1 < 3). -/
theorem witness_EarlyFetchFaults_register :
    (beginSlot (cog 0x0C7C0008) = .next (cog 0x0C7C0008).tick ∧
      (cog 0x0C7C0008).tick.overlaid (cog 0x0C7C0008).tick.pc = false ∧
      (cog 0x0C7C0008).tick.writtenAt[(cog 0x0C7C0008).tick.pc.toNat]'(cog 0x0C7C0008).tick.pc.isLt = none) ∧
    ∀ p : Nat × Option Nat, p = (2, none) ∨ p = (2, some 1) ∨ p = (1, some 1) →
      beginSlot (rewritten p.1 p.2) = .next (rewritten p.1 p.2).tick ∧
      (rewritten p.1 p.2).tick.overlaid (rewritten p.1 p.2).tick.pc = false ∧
      (rewritten p.1 p.2).tick.writtenAt[(rewritten p.1 p.2).tick.pc.toNat]'(rewritten p.1 p.2).tick.pc.isLt
        = some p.1 ∧
      (rewritten p.1 p.2).tick.params.execAfterWrite = p.2 ∧ (rewritten p.1 p.2).tick.steps = 3 := by
  refine ⟨⟨rfl, by decide, by decide⟩, fun p h => ?_⟩
  rcases h with rfl | rfl | rfl <;> exact ⟨rfl, by decide, by decide, by decide, by decide⟩

theorem witness_EarlyFetchFaults_written_quad :
    ∀ p : Nat × Option Nat, p = (2, none) ∨ p = (2, some 1) ∨ p = (1, some 1) →
      beginSlot (rewrittenQuad p.1 p.2) = .next (rewrittenQuad p.1 p.2).tick ∧
      (rewrittenQuad p.1 p.2).tick.overlaid (rewrittenQuad p.1 p.2).tick.pc = true ∧
      (rewrittenQuad p.1 p.2).tick.qex = 0 ∧
      (rewrittenQuad p.1 p.2).tick.quadWrittenAt[quadIndex (rewrittenQuad p.1 p.2).tick.pc] = some p.1 ∧
      (rewrittenQuad p.1 p.2).tick.params.execAfterWrite = p.2 ∧
      (rewrittenQuad p.1 p.2).tick.steps = 3 := by
  intro p h
  rcases h with rfl | rfl | rfl <;> exact ⟨rfl, by decide, by decide, by decide, by decide, by decide⟩

theorem witness_ReadinessCountersFollowTheRule :
    (∃ t, step { cog 0x0C7C0008 with qds := 1, qex := 3 } = .next t ∧ t.qds = 0 ∧ t.qex = 2) ∧
    ∃ t, step (cog21 0x01BC4021 0x00000011#32) = .next t ∧ t.qds = 3 ∧ t.qex = 5 :=
  ⟨step_answers _ (by decide), step_answers _ (by decide)⟩

/-- A launch whose code image starts at $1FFFC, so that long 1 lies at $00000. -/
def wrappingLaunch : Launch := { Launch.ofReset with codeLong := 0x7FFF#15, loadLongs := 2 }

theorem witness_CogStartValues : wrappingLaunch.wf = true ∧ (0x001#9 : CogAddr).toNat < wrappingLaunch.loadLongs ∧
    wrappingLaunch.termAt 0x001#9 = none ∧
    wrappingLaunch.hubAtLoad.longAt ((4 * wrappingLaunch.codeLong.toNat + 4 * (0x001#9 : CogAddr).toNat) % 2 ^ 17)
      = some 0x706F7250#32 := by decide
theorem witness_StartMeetsInvariant : wrappingLaunch.wf = true := by decide

/-- The cog with SETPTRA #4 next and the window at $00010 cached: it meets the invariant, and its window
is coherent. -/
def coherent : State := warm (cog 0x0CFC08B2)

theorem witness_StepKeepsInvariant : coherent.Inv ∧ ∃ t, step coherent = .next t ∧ True := by
  refine ⟨⟨by decide, by decide, by decide, by decide, by decide, fun i k h => ?_, fun i k h => ?_⟩,
    step_answers _ (by decide)⟩
  · have : ∀ j : Fin 512, coherent.writtenAt[j] = none := by decide +kernel
    rw [this i] at h
    cases h
  · have : ∀ j : Fin 4, coherent.quadWrittenAt[j] = none := by decide
    rw [this i] at h
    cases h

theorem witness_StepKeepsCacheCoherent : coherent.others.headD [] = [] ∧ coherent.quadsMapped = false ∧
    coherent.CacheCoherent ∧ coherent.cv = true ∧ coherent.windowWritten = false ∧
    ∃ t, step coherent = .next t ∧ t.cv = true :=
  ⟨by decide, by decide, fun _ _ => by decide, by decide, by decide, step_answers _ (by decide)⟩

theorem witness_CoherentHitReturnsTheHubValue : coherent.CacheCoherent ∧ coherent.windowWritten = false ∧
    coherent.hits 0x00010#17 = true ∧ coherent.hits 0x0001F#17 = true :=
  ⟨fun _ _ => by decide, by decide, by decide, by decide⟩

theorem witness_FlagsAreWrittenOnlyAsRuled_zRule : Params.default.zRule = .resultIsZero := by decide
theorem witness_OnlyNotpWritesPins :
    ∃ t, exec (.notpN 3#32) State.reset = .next t ∧ t.out ≠ State.reset.out := exec_answers _ (by decide)
theorem witness_OnlySetquadAndSettaskWriteTheirRegisters :
    (∃ t, exec (.setquadN 15#4 0x1F0#9) State.reset = .next t ∧ t.qbase ≠ State.reset.qbase) ∧
    (∃ t, exec (.setquadD 15#4 0x021#9) (atAddr 0x1F0#17) = .next t ∧ t.qbase ≠ (atAddr 0x1F0#17).qbase) ∧
    ∃ t, exec (.settaskN 0xE4#32) State.reset = .next t ∧ t.task ≠ State.reset.task :=
  ⟨exec_answers _ (by decide), exec_answers _ (by decide), exec_answers _ (by decide)⟩

theorem witness_FlagsAreWrittenOnlyAsRuled_z :
    (∃ t, exec (.rdbyteDS true 15#4 0x020#9 0x021#9) (atAddr 5#17) = .next t ∧
      t.flags[(atAddr 5#17).flagIndex].z ≠ (atAddr 5#17).flags[(atAddr 5#17).flagIndex].z) ∧
    (3 : TaskId) ≠ (atAddr 5#17).flagIndex :=
  ⟨exec_answers _ (by decide), by decide⟩

/-- A state whose C is not what the next draw will give. -/
def againstTheDraw : State := { State.reset with flags := #v[⟨!Config.freeBit 0, true⟩, ⟨true, true⟩, ⟨true, true⟩, ⟨true, true⟩] }

theorem witness_FlagsAreWrittenOnlyAsRuled_c :
    ∃ t, exec (.getptraD false true true 15#4 0x020#9) againstTheDraw = .next t ∧
      t.flags[againstTheDraw.flagIndex].c ≠ againstTheDraw.flags[againstTheDraw.flagIndex].c := by
  refine ⟨_, rfl, ?_⟩
  show Config.freeBit 0 ≠ !Config.freeBit 0
  cases Config.freeBit 0 <;> decide

theorem witness_PointersAreWrittenOnlyAsRuled :
    (∃ t, exec (.setptrbN 15#4 1#9) State.reset = .next t ∧ t.ptr true ≠ State.reset.ptr true) ∧
    ∃ t, exec (.rdbyteDPtr false 15#4 0x020#9 ⟨false, true, true, 1#6⟩) State.reset = .next t ∧
      t.ptr false ≠ State.reset.ptr false := by
  refine ⟨exec_answers _ (by decide), ⟨_, rfl, by decide⟩⟩

theorem witness_HubAndCacheAreWrittenOnlyAsRuled :
    (∃ t, exec (.wrlongDS 15#4 0x020#9 0x021#9) (atAddr 0x1FFFF#17) = .next t ∧ t.hub ≠ (atAddr 0x1FFFF#17).hub) ∧
    (∃ t, exec (.rdquadD 15#4 0x021#9) (atAddr 0#17) = .next t ∧
      (t.cv ≠ (atAddr 0#17).cv ∨ t.ctag ≠ (atAddr 0#17).ctag)) ∧
    ∃ t, exec (.cachex 15#4) (warm State.reset) = .next t ∧
      (t.cv ≠ (warm State.reset).cv ∨ t.ctag ≠ (warm State.reset).ctag) :=
  ⟨exec_answers _ (by decide), exec_answers _ (by decide), exec_answers _ (by decide)⟩

theorem witness_PushPopAndParametersNeverChange : ∃ t, step coherent = .next t ∧ True := step_answers _ (by decide)
theorem witness_ConditionDecidesExecution :
    (Instr.rdbyteDS false 0#4 0x020#9 0x021#9).condField = some 0#4 ∧ State.reset.holds 0#4 = false ∧
    (Instr.wrquadPtr 8#4 atPtra).condField = some 8#4 ∧ State.reset.holds 8#4 = true := by decide
theorem witness_ConditionDecidesExecution_table :
    State.reset.params.condTable = Params.default.condTable := by decide
theorem witness_HiddenBasesAreEquivalent : (0x001#9).extractLsb' 0 2 ≠ 0#2 ∧ (0x1FF#9).extractLsb' 0 2 ≠ 0#2 ∧
    ∃ t, step { cog 0x0CFC08B2 with qbase := 0x001#9 } = .next t ∧ True :=
  ⟨by decide, by decide, step_answers _ (by decide)⟩

theorem witness_PtrExpressionEvaluates :
    (ptrForm (.wrquadPtr 15#4 ⟨true, true, false, 31#6⟩) = some (15#4, ⟨true, true, false, 31#6⟩, 16) ∧
      ∃ t, exec (.wrquadPtr 15#4 ⟨true, true, false, 31#6⟩) (atAddr 0x00E80#17) = .next t ∧ True) ∧
    (ptrForm (.rdbyteDPtr false 15#4 0x020#9 ⟨false, true, false, -32#6⟩)
        = some (15#4, ⟨false, true, false, -32#6⟩, 1) ∧
      ∃ t, exec (.rdbyteDPtr false 15#4 0x020#9 ⟨false, true, false, -32#6⟩) (atAddr 0x0003F#17) = .next t ∧ True) ∧
    (ptrForm (.rdlongDPtr false 0#4 0x020#9 ⟨false, true, true, 1#6⟩)
        = some (0#4, ⟨false, true, true, 1#6⟩, 4) ∧
      ∃ t, exec (.rdlongDPtr false 0#4 0x020#9 ⟨false, true, true, 1#6⟩) State.reset = .next t ∧
        t.ptra = State.reset.ptra) :=
  ⟨⟨by decide, exec_answers _ (by decide)⟩, ⟨by decide, exec_answers _ (by decide)⟩,
   ⟨by decide, exec_answers _ (by decide)⟩⟩

theorem witness_MixedWidthsSeeTheSameBytes : (0x1FFFC#17 : HubAddr).toNat % 4 = 0 ∧
    Memory.write [] 4 0x1FFFC#17 (unitBytes .long 0x12345678#32)
      = some [(0x1FFFC, 0x78#8), (0x1FFFD, 0x56#8), (0x1FFFE, 0x34#8), (0x1FFFF, 0x12#8)] := by decide
theorem witness_LowAddressBitsAreIgnored :
    (0x01000#17 : HubAddr).toNat / DataSize.bytes .long = (0x01003#17 : HubAddr).toNat / DataSize.bytes .long ∧
    (0x01000#17 : HubAddr).toNat / DataSize.bytes .word = (0x01001#17 : HubAddr).toNat / DataSize.bytes .word ∧
    (0x1FFF0#17 : HubAddr).toNat / 16 = (0x1FFFF#17 : HubAddr).toNat / 16 := by decide

/-- The first and the last RAM unit, for every width. -/
theorem witness_StoreThroughRegister : ∀ a : HubAddr, a = 0x00E80#17 ∨ a = 0x1FFFF#17 → ∀ sz : DataSize,
    (atAddr a).holds 15#4 = true ∧ (atAddr a).early 0x020#9 = false ∧ (atAddr a).early 0x021#9 = false ∧
    romEnd ≤ unitBase sz.bytes (regAddress 0x021#9 (atAddr a)) := by
  intro a h sz
  rcases h with rfl | rfl <;> cases sz <;> decide
theorem witness_StoreThroughPointer : ∀ a : HubAddr, a = 0x00E80#17 ∨ a = 0x1FFFF#17 → ∀ sz : DataSize,
    (atAddr a).holds 15#4 = true ∧ (atAddr a).early 0x020#9 = false ∧
    romEnd ≤ unitBase sz.bytes (ptrAddress atPtra sz.bytes (atAddr a)) := by
  intro a h sz
  rcases h with rfl | rfl <;> cases sz <;> decide

/-- The last ROM byte, for every width. -/
theorem witness_StoreToRomIsRefused :
    (atAddr 0x00E7F#17).holds 15#4 = true ∧ (atAddr 0x00E7F#17).early 0x020#9 = false ∧
    (atAddr 0x00E7F#17).early 0x021#9 = false ∧ (atAddr 0x00E7F#17).qds = 0 ∧
    (∀ sz : DataSize, unitBase sz.bytes (regAddress 0x021#9 (atAddr 0x00E7F#17)) < romEnd ∧
      unitBase sz.bytes (ptrAddress atPtra sz.bytes (atAddr 0x00E7F#17)) < romEnd) ∧
    unitBase 16 (regAddress 0x021#9 (atAddr 0x00E7F#17)) < romEnd ∧
    unitBase 16 (ptrAddress atPtra 16 (atAddr 0x00E7F#17)) < romEnd := by
  refine ⟨by decide, by decide, by decide, by decide, fun sz => ?_, by decide, by decide⟩
  cases sz <;> decide

theorem witness_LoadThroughRegister : (atAddr 0x0001F#17).holds 15#4 = true ∧
    (atAddr 0x0001F#17).early 0x020#9 = false ∧ (atAddr 0x0001F#17).early 0x021#9 = false ∧
    (atAddr 0x0001F#17).hub.read .byte (regAddress 0x021#9 (atAddr 0x0001F#17)) = some 0x0D#32 ∧
    (atAddr 0x0001F#17).hub.read .word (regAddress 0x021#9 (atAddr 0x0001F#17)) = some 0x0D7C#32 ∧
    (atAddr 0x0001F#17).hub.read .long (regAddress 0x021#9 (atAddr 0x0001F#17)) = some 0x0D7CC601#32 := by decide
theorem witness_LoadThroughPointer : (atAddr 0x0001F#17).holds 15#4 = true ∧
    (atAddr 0x0001F#17).early 0x020#9 = false ∧
    (atAddr 0x0001F#17).hub.read .byte (ptrAddress atPtra 1 (atAddr 0x0001F#17)) = some 0x0D#32 ∧
    (atAddr 0x0001F#17).hub.read .word (ptrAddress atPtra 2 (atAddr 0x0001F#17)) = some 0x0D7C#32 ∧
    (atAddr 0x0001F#17).hub.read .long (ptrAddress atPtra 4 (atAddr 0x0001F#17)) = some 0x0D7CC601#32 := by decide

/-- The last unit of an empty RAM holds no known value: every width, both operand forms. It meets the
hubByteUnwritten clauses of the load, cached miss, RDQUAD and RDQUADC statements. -/
theorem witness_unknown_byte : (atAddr 0x1FFFF#17).holds 15#4 = true ∧
    (atAddr 0x1FFFF#17).early 0x020#9 = false ∧ (atAddr 0x1FFFF#17).early 0x021#9 = false ∧
    (atAddr 0x1FFFF#17).hits (regAddress 0x021#9 (atAddr 0x1FFFF#17)) = false ∧
    (atAddr 0x1FFFF#17).hits (ptrAddress atPtra 16 (atAddr 0x1FFFF#17)) = false ∧
    ∀ n, n = 1 ∨ n = 2 ∨ n = 4 ∨ n = 16 →
      (atAddr 0x1FFFF#17).unknownByte n (regAddress 0x021#9 (atAddr 0x1FFFF#17)) ∧
      (atAddr 0x1FFFF#17).unknownByte n (ptrAddress atPtra n (atAddr 0x1FFFF#17)) := by
  refine ⟨by decide, by decide, by decide, by decide, by decide, fun n h => ?_⟩
  rcases h with rfl | rfl | rfl | rfl <;> exact ⟨⟨0, by decide, by decide⟩, ⟨0, by decide, by decide⟩⟩

/-- A miss with the cache invalid, and a miss with another window cached. -/
theorem witness_CachedMissFillsAndReturnsTheHubValue : ∀ s : State,
    s = atAddr 0x0001F#17 ∨ s = { atAddr 0x0001F#17 with cv := true, ctag := 0#13 } →
    s.holds 15#4 = true ∧ s.early 0x020#9 = false ∧ s.early 0x021#9 = false ∧
    s.hits (regAddress 0x021#9 s) = false ∧ s.hub.readQuad (regAddress 0x021#9 s) = some quad1 ∧
    s.hits (ptrAddress atPtra 1 s) = false ∧ s.hub.readQuad (ptrAddress atPtra 1 s) = some quad1 := by
  intro s h
  rcases h with rfl | rfl <;> decide

/-- A miss whose D is a QUAD in its delay. -/
theorem witness_CachedMissFillsAndReturnsTheHubValue_early :
    let s : State := { atAddr 0x0001F#17 with qbase := 0x01C#9, qds := 2, qex := 4 }
    s.holds 15#4 = true ∧ s.early 0x01F#9 = true ∧ s.early 0x021#9 = false ∧
    s.hits (regAddress 0x021#9 s) = false ∧ s.hub.readQuad (regAddress 0x021#9 s) = some quad1 := by decide

/-- The last byte of the cached window. -/
theorem witness_CachedHitReturnsTheQuads : (warm (atAddr 0x0001F#17)).holds 15#4 = true ∧
    (warm (atAddr 0x0001F#17)).qds = 0 ∧ (warm (atAddr 0x0001F#17)).windowWritten = false ∧
    (warm (atAddr 0x0001F#17)).hits (regAddress 0x021#9 (warm (atAddr 0x0001F#17))) = true ∧
    (warm (atAddr 0x0001F#17)).hits (ptrAddress atPtra 1 (warm (atAddr 0x0001F#17))) = true := by decide

/-- The cached window at $00010, with `w` in windowWritten and `n` in qds. -/
def warmAt (w : Bool) (n : Nat) : State := { warm (atAddr 0x00010#17) with windowWritten := w, qds := n, qex := n + 2 }

theorem witness_StaleCacheHitFaults : (warmAt true 0).holds 15#4 = true ∧ (warmAt true 0).early 0x020#9 = false ∧
    (warmAt true 0).early 0x021#9 = false ∧ (warmAt true 0).windowWritten = true ∧
    (warmAt true 0).hits (regAddress 0x021#9 (warmAt true 0)) = true ∧
    (warmAt true 0).hits (ptrAddress atPtra 16 (warmAt true 0)) = true := by decide

theorem witness_EarlyQuadUseFaults_taken : (∀ k, (Instr.gettopsD false 15#4 0x020#9).condField = some k →
      (warmAt false 1).holds k = true) ∧ 0 < (warmAt false 1).qds ∧
    takesQuads (.gettopsD false 15#4 0x020#9) = true := by
  refine ⟨fun k h => ?_, by decide, by decide⟩
  cases h
  decide
theorem witness_EarlyQuadUseFaults_register : (∀ k, (Instr.settaskD 0x1FF#9).condField = some k →
      ({ warmAt false 1 with qbase := 0x1FC#9 } : State).holds k = true) ∧
    0 < ({ warmAt false 1 with qbase := 0x1FC#9 } : State).qds ∧
    ∃ a ∈ addressedRegisters (.settaskD 0x1FF#9), ({ warmAt false 1 with qbase := 0x1FC#9 } : State).overlaid a = true := by
  refine ⟨fun k h => ?_, by decide, by decide⟩
  cases h
theorem witness_EarlyQuadUseFaults_hit : (warmAt false 1).holds 15#4 = true ∧ 0 < (warmAt false 1).qds ∧
    (warmAt false 1).windowWritten = false ∧
    (warmAt false 1).hits (regAddress 0x021#9 (warmAt false 1)) = true ∧
    (warmAt false 1).hits (ptrAddress atPtra 1 (warmAt false 1)) = true ∧
    (warmAt false 1).hits (ptrAddress atPtra 16 (warmAt false 1)) = true := by decide

theorem witness_WrquadStoresTheQuads : (atAddr 0x00E80#17).holds 15#4 = true ∧ (atAddr 0x00E80#17).qds = 0 ∧
    romEnd ≤ unitBase 16 (regAddress 0x021#9 (atAddr 0x00E80#17)) ∧
    romEnd ≤ unitBase 16 (ptrAddress atPtra 16 (atAddr 0x00E80#17)) := by decide
theorem witness_RdquadLoadsTheQuads : (atAddr 0x0001F#17).holds 15#4 = true ∧
    (atAddr 0x0001F#17).early 0x021#9 = false ∧
    (∀ j : Fin 4, (atAddr 0x0001F#17).hub.longAt (unitBase 16 (regAddress 0x021#9 (atAddr 0x0001F#17)) + 4 * j.val)
      = some quad1[j]) ∧
    ∀ j : Fin 4, (atAddr 0x0001F#17).hub.longAt (unitBase 16 (ptrAddress atPtra 16 (atAddr 0x0001F#17)) + 4 * j.val)
      = some quad1[j] := by decide
theorem witness_RdquadcFillsOnlyOnAMiss_miss : (atAddr 0x0001F#17).holds 15#4 = true ∧
    (atAddr 0x0001F#17).early 0x021#9 = false ∧
    (atAddr 0x0001F#17).hits (regAddress 0x021#9 (atAddr 0x0001F#17)) = false ∧
    (atAddr 0x0001F#17).hits (ptrAddress atPtra 16 (atAddr 0x0001F#17)) = false ∧
    (∀ j : Fin 4, (atAddr 0x0001F#17).hub.longAt (unitBase 16 (regAddress 0x021#9 (atAddr 0x0001F#17)) + 4 * j.val)
      = some quad1[j]) ∧
    ∀ j : Fin 4, (atAddr 0x0001F#17).hub.longAt (unitBase 16 (ptrAddress atPtra 16 (atAddr 0x0001F#17)) + 4 * j.val)
      = some quad1[j] := by decide
theorem witness_RdquadcFillsOnlyOnAMiss_hit : (warmAt false 0).holds 15#4 = true ∧ (warmAt false 0).qds = 0 ∧
    (warmAt false 0).windowWritten = false ∧
    (warmAt false 0).hits (regAddress 0x021#9 (warmAt false 0)) = true ∧
    (warmAt false 0).hits (ptrAddress atPtra 16 (warmAt false 0)) = true := by decide
theorem witness_CachexInvalidates : State.reset.holds 15#4 = true := by decide
theorem witness_GettopsPacksTheTopBytes : (warmAt false 0).holds 15#4 = true ∧ (warmAt false 0).qds = 0 := by decide
theorem witness_SetquadMapsOrHides : (warmAt false 0).holds 15#4 = true ∧ (warmAt false 0).early 0x021#9 = false ∧
    (0x1FC#9).toNat % 4 = 0 ∧ (0x1FF#9).toNat % 4 ≠ 0 := by decide

theorem witness_pointer_instructions : (atAddr 0x1FFFF#17).holds 15#4 = true ∧
    (atAddr 0x1FFFF#17).early 0x021#9 = false := by decide
theorem witness_GetptrReadsThePointer : (atAddr 0x1FFFF#17).holds 15#4 = true ∧
    (atAddr 0x1FFFF#17).early 0x021#9 = false := witness_pointer_instructions
theorem witness_GetptrWithoutResultLeavesD : (atAddr 0x1FFFF#17).holds 15#4 = true := witness_pointer_instructions.1
theorem witness_SetptrLoadsThePointer : (atAddr 0x1FFFF#17).holds 15#4 = true ∧
    (atAddr 0x1FFFF#17).early 0x021#9 = false := witness_pointer_instructions
theorem witness_AddptrAddsModuloTheWidth : (atAddr 0x1FFFF#17).holds 15#4 = true ∧
    (atAddr 0x1FFFF#17).early 0x021#9 = false := witness_pointer_instructions
theorem witness_SubptrSubtractsModuloTheWidth : (atAddr 0x1FFFF#17).holds 15#4 = true ∧
    (atAddr 0x1FFFF#17).early 0x021#9 = false := witness_pointer_instructions

theorem witness_SettaskImmediateReplicates :
    (cogTerm (.settaskN 0xE4#32)).nextInstr = some (.settaskN 0xE4#32) ∧
    ∃ t, step (cogTerm (.settaskN 0xE4#32)) = .next t ∧ True := ⟨by decide, step_answers _ (by decide)⟩
theorem witness_SettaskRegisterLoads : (cogTerm (.settaskD 0x1FF#9)).early 0x1FF#9 = false ∧
    (cogTerm (.settaskD 0x1FF#9)).nextInstr = some (.settaskD 0x1FF#9) ∧
    ∃ t, step (cogTerm (.settaskD 0x1FF#9)) = .next t ∧ True := ⟨by decide, by decide, step_answers _ (by decide)⟩
theorem witness_JmptaskSetsTheMaskedCounters :
    (taskOperandReady (.reg 0x021#9) (atAddr 0x1FF#17) = true ∧ taskOperandReady (.lit 15#32) (atAddr 0x1FF#17) = true) ∧
    (cogTerm (.jmptask (.lit 0x3FF#32) (.lit 0x1F#32))).nextInstr = some (.jmptask (.lit 0x3FF#32) (.lit 0x1F#32)) ∧
    ∃ t, step (cogTerm (.jmptask (.lit 0x3FF#32) (.lit 0x1F#32))) = .next t ∧ True :=
  ⟨by decide, by decide, step_answers _ (by decide)⟩
theorem witness_NotpTogglesOnePin : (3#32 : Long).toNat < State.reset.params.npins ∧
    State.reset.params.npins ≤ (4#32 : Long).toNat := by decide

end Sys2Proof.Tests
end

