-- ==== Sys2Proof/Proofs/Memory.lean ====
section
/-!
PROOF of the statement about aligned hub units (R63). Every access reaches the hub only through the base of
its unit, so the unit decides what is read and written.
-/

namespace Sys2Proof.Machine

/-- Addresses in the same aligned unit have the same base. -/
theorem unitBase_eq_of_div_eq {n : Nat} {a a' : HubAddr} (h : a.toNat / n = a'.toNat / n) :
    unitBase n a = unitBase n a' := by
  rw [unitBase_eq, unitBase_eq, h]

/-- A read depends on its address only through the base of the unit. -/
theorem Memory.read_eq_of_unitBase_eq (m : Memory) {sz : DataSize} {a a' : HubAddr}
    (h : unitBase sz.bytes a = unitBase sz.bytes a') : m.read sz a = m.read sz a' := by
  cases sz with
  | byte => exact congrArg (fun b => (m.byte b).map (·.setWidth 32)) h
  | word => exact congrArg (fun b => (m.wordAt b).map (·.setWidth 32)) h
  | long => exact congrArg m.longAt h

/-- A quad read depends on its address only through the base of the quad. -/
theorem Memory.readQuad_eq_of_unitBase_eq (m : Memory) {a a' : HubAddr}
    (h : unitBase 16 a = unitBase 16 a') : m.readQuad a = m.readQuad a' :=
  congrArg m.quadAt h

/-- A write, refusal of ROM included, depends on its address only through the base of the unit. -/
theorem Memory.write_eq_of_unitBase_eq (m : Memory) {n : Nat} {a a' : HubAddr} (bs : List Byte)
    (h : unitBase n a = unitBase n a') : m.write n a bs = m.write n a' bs := by
  unfold Memory.write
  rw [h]

/-- Settles O34: the addresses share the base of their unit, through which each access goes. -/
theorem lowAddressBitsAreIgnored : Obligations.LowAddressBitsAreIgnored := by
  intro m a a'
  constructor
  · intro sz bs hunit
    have hbase := unitBase_eq_of_div_eq hunit
    exact ⟨m.read_eq_of_unitBase_eq hbase, m.write_eq_of_unitBase_eq bs hbase⟩
  · intro bs hunit
    have hbase := unitBase_eq_of_div_eq hunit
    exact ⟨m.readQuad_eq_of_unitBase_eq hbase, m.write_eq_of_unitBase_eq bs hbase⟩

end Sys2Proof.Machine
end

