-- ==== Sys2Proof/Proofs/Task.lean ====
section
/-!
PROOF of the statements about SETTASK D (R142) and JMP #a (R144). What precedes the instruction in a step
leaves the registers and TASK alone and moves only the program counter that a jump overrides, so the step
has the effect of the instruction on the state before it, then the rotation of TASK.
-/

namespace Sys2Proof.Machine

/-! ## Around the execution of an instruction -/

/-- A step runs `nextInstr` between the begin and the end of its slot (R140). -/
theorem exec_of_step {s t : State} {i : Instr} (hi : s.nextInstr = some i) (h : step s = .next t) :
    ∃ s₁ u, beginSlot s = .next s₁ ∧ exec i s₁.advance = .next u ∧ endSlot i u = t := by
  obtain ⟨s₁, i', u, hb, hf, hx, ht⟩ := step_eq_next.1 h
  obtain rfl : i = i' := Option.some.inj (hi.symm.trans (nextInstr_of_step hb hf))
  exact ⟨s₁, u, hb, hx, ht⟩

section
variable {s s₁ : State}

theorem beginSlot_pcs (h : beginSlot s = .next s₁) : s₁.pcs = s.pcs := by
  obtain ⟨_, _, rfl⟩ := beginSlot_eq_next.1 h
  rfl

theorem beginSlot_currentTask (h : beginSlot s = .next s₁) : s₁.currentTask = s.currentTask := by
  obtain ⟨_, _, rfl⟩ := beginSlot_eq_next.1 h
  rfl

theorem beginSlot_params (h : beginSlot s = .next s₁) : s₁.params = s.params := by
  obtain ⟨_, _, rfl⟩ := beginSlot_eq_next.1 h
  rfl

theorem beginSlot_x (h : beginSlot s = .next s₁) (a : CogAddr) : s₁.x a = s.x a := by
  obtain ⟨_, _, rfl⟩ := beginSlot_eq_next.1 h
  rfl

end

@[simp] theorem State.advance_x (s : State) (a : CogAddr) : s.advance.x a = s.x a := rfl

@[simp] theorem State.advance_currentTask (s : State) : s.advance.currentTask = s.currentTask := rfl

/-- The end of a SETTASK step rotates the new TASK where SettaskRotates (R141, R142, D10). -/
theorem endSlot_task_of_isSettask {i : Instr} (hi : isSettask i = true) (s : State) :
    (endSlot i s).task = if s.params.settaskRotates = true then s.task.rotateRight 2 else s.task := by
  cases hr : s.params.settaskRotates <;> simp [endSlot, hi, hr]

/-! ## SETTASK D -/

theorem exec_settaskD_eq_next {d : CogAddr} {s t : State} :
    exec (.settaskD d) s = .next t ↔ s.early d = false ∧ s.setTask (s.x d) = t := by
  change andThen (readX d s) (fun v => .next (s.setTask v)) = .next t ↔ _
  simp only [andThen_eq_next, readX_eq_next, Host.Outcome.next.injEq]
  constructor
  · rintro ⟨v, ⟨he, rfl⟩, ht⟩
    exact ⟨he, ht⟩
  · rintro ⟨he, ht⟩
    exact ⟨_, ⟨he, rfl⟩, ht⟩

/-- Settles O57: the instruction loads the value the register has before the step, and the end of the slot
rotates what was loaded. -/
theorem settaskRegisterLoads : Obligations.SettaskRegisterLoads := by
  intro d s t
  constructor
  · intro he
    exact exec_settaskD_eq_next.2 ⟨he, rfl⟩
  · intro hi h
    obtain ⟨s₁, u, hb, hx, rfl⟩ := exec_of_step hi h
    obtain ⟨_, rfl⟩ := exec_settaskD_eq_next.1 hx
    simp [endSlot_task_of_isSettask (i := .settaskD d) rfl, beginSlot_params hb, beginSlot_x hb]

/-! ## JMP #a -/

theorem State.setPc_getElem (s : State) (t j : TaskId) (a : CogAddr) :
    (s.setPc t a).pcs[j] = if j = t then a else s.pcs[j] := by
  simp [Vector.getElem_set, Fin.ext_iff, eq_comm]

/-- A later write to the same program counter replaces an earlier one. -/
theorem State.setPc_setPc (s : State) (t : TaskId) (a b : CogAddr) :
    (s.setPc t a).setPc t b = s.setPc t b := by
  simp [State.setPc]

theorem exec_jmpA (a : Long) (s : State) :
    exec (.jmpA a) s = .next (s.setPc s.currentTask (a.extractLsb' 0 9)) := by
  rw [← BitVec.setWidth_eq_extractLsb' (by decide : 9 ≤ 32)]
  rfl

/-- A jump overrides the advance of its slot (R140, R144). -/
theorem exec_jmpA_advance (a : Long) (s : State) : exec (.jmpA a) s.advance = exec (.jmpA a) s := by
  rw [exec_jmpA, exec_jmpA, State.advance_currentTask, State.advance, State.setPc_setPc]

/-- Settles O59: the jump writes the slot's own program counter, and in a step it overrides the advance. -/
theorem jmpSetsItsOwnCounter : Obligations.JmpSetsItsOwnCounter := by
  intro a s
  refine ⟨_, exec_jmpA a s, fun j => s.setPc_getElem _ j _, rfl, ?_⟩
  intro u hi h j
  obtain ⟨s₁, v, hb, hx, rfl⟩ := exec_of_step hi h
  rw [exec_jmpA_advance, exec_jmpA] at hx
  obtain rfl := Host.Outcome.next.inj hx
  rw [endSlot_pcs, State.setPc_getElem, beginSlot_currentTask hb, beginSlot_pcs hb]

end Sys2Proof.Machine
end

