-- ==== Sys2Proof/Proofs/Pointer.lean ====
section
/-!
PROOF of the statements about SETPTRx, ADDPTRx and SUBPTRx (R203 to R208). Each has a register form and a
literal form; `ReadyOperand` reads both as a natural number, so that one lemma for each operation covers its
four instructions, which are by definition the operation under their condition. The arithmetic on words of 17
bits is the arithmetic of that number modulo 2^17.
-/

namespace Sys2Proof.Machine

/-! ## Words of major opcode 000011 -/

/-- A word built from its parts has those parts as its fields (R101, R102). -/
theorem fieldsOf_functionWord (g : BitVec 4) (k : Cond) (d code : BitVec 9) :
    fieldsOf (functionWord g k d code) =
      functionFields code (g.getLsbD 3) (g.getLsbD 2) (g.getLsbD 1) (g.getLsbD 0) k d := by
  -- The lemmas about `++` find the parts only where the width 32 is written as the sum of theirs.
  obtain ⟨w, hw⟩ : ∃ w : BitVec (6 + 4 + 4 + 9 + 9), w = 0b000011#6 ++ g ++ k ++ d ++ code := ⟨_, rfl⟩
  have hfields : fieldsOf (functionWord g k d code) =
      ⟨w.extractLsb' 26 6, w.getLsbD 25, w.getLsbD 24, w.getLsbD 23, w.getLsbD 22,
        w.extractLsb' 18 4, w.extractLsb' 9 9, w.extractLsb' 0 9⟩ := by rw [hw]; rfl
  rw [hfields, hw]
  simp [functionFields, BitVec.extractLsb'_append_eq_ite, BitVec.getElem_append, -Nat.reduceAdd]

/-- The decoder reads such a word as the instruction whose fields it was built from (R110). -/
theorem decode_functionWord {g : BitVec 4} {k : Cond} {d code : BitVec 9} {i : Instr}
    (hi : encodeFields i =
      some (functionFields code (g.getLsbD 3) (g.getLsbD 2) (g.getLsbD 1) (g.getLsbD 0) k d))
    (hrt : Laws.FieldsRoundTrip.Statement i) : decode (functionWord g k d code) = .ok i := by
  rw [decode, fieldsOf_functionWord]
  exact hrt _ hi

/-! ## Operands -/

/-- The operand answers its value, the number `x`: a register whose access is not early, or a literal
(R200, R266). -/
inductive ReadyOperand (s : State) : ValueOperand → Nat → Prop where
  | reg {d : CogAddr} (he : s.early d = false) : ReadyOperand s (.reg d) (s.x d).toNat
  | lit (n : BitVec 9) : ReadyOperand s (.lit n) n.toNat

theorem ReadyOperand.operandValue_eq {s : State} {op : ValueOperand} {x : Nat} (h : ReadyOperand s op x) :
    ∃ v, operandValue op s = .next v ∧ v.toNat = x := by
  cases h with
  | reg he => exact ⟨_, operandValue_reg_eq_next.2 ⟨he, rfl⟩, rfl⟩
  | lit n => exact ⟨_, operandValue_lit, BitVec.toNat_setWidth_of_le (by decide)⟩

/-! ## Arithmetic modulo 2^17 -/

theorem hubAddr_add_setWidth (p : HubAddr) (v : Long) :
    p + v.setWidth 17 = BitVec.ofNat 17 (p.toNat + v.toNat) := by
  rw [BitVec.ofNat_add, BitVec.ofNat_toNat, BitVec.ofNat_toNat, BitVec.setWidth_eq]

theorem hubAddr_sub_setWidth (p : HubAddr) (v : Long) :
    p - v.setWidth 17 = BitVec.ofInt 17 (p.toNat - v.toNat) := by
  rw [sub_eq_add_neg, sub_eq_add_neg, BitVec.ofInt_add, BitVec.ofInt_neg, BitVec.ofInt_natCast,
    BitVec.ofInt_natCast, BitVec.ofNat_toNat, BitVec.ofNat_toNat, BitVec.setWidth_eq]

/-! ## The operations under a true condition -/

section
variable {k : Cond} {s : State} {b : Bool} {op : ValueOperand} {x : Nat}

theorem whenHolds_setPointer (hk : s.holds k = true) (hop : ReadyOperand s op x) :
    whenHolds k s (setPointer b op) = .next (s.setPtr b (BitVec.ofNat 17 x)) := by
  obtain ⟨v, hv, rfl⟩ := hop.operandValue_eq
  rw [whenHolds_of_holds hk]
  exact setPointer_eq_next.2 ⟨v, hv, congrArg (s.setPtr b) (BitVec.ofNat_toNat 17 v).symm⟩

theorem whenHolds_addPointer (hk : s.holds k = true) (hop : ReadyOperand s op x) :
    whenHolds k s (addPointer b op) = .next (s.setPtr b (BitVec.ofNat 17 ((s.ptr b).toNat + x))) := by
  obtain ⟨v, hv, rfl⟩ := hop.operandValue_eq
  rw [whenHolds_of_holds hk]
  exact addPointer_eq_next.2 ⟨v, hv, congrArg (s.setPtr b) (hubAddr_add_setWidth _ v)⟩

theorem whenHolds_subPointer (hk : s.holds k = true) (hop : ReadyOperand s op x) :
    whenHolds k s (subPointer b op) = .next (s.setPtr b (BitVec.ofInt 17 ((s.ptr b).toNat - x))) := by
  obtain ⟨v, hv, rfl⟩ := hop.operandValue_eq
  rw [whenHolds_of_holds hk]
  exact subPointer_eq_next.2 ⟨v, hv, congrArg (s.setPtr b) (hubAddr_sub_setWidth _ v)⟩

end

/-! ## The statements -/

open Laws

/-- Settles O53: bits 16..0 of the operand are its value modulo 2^17. -/
theorem setptrLoadsThePointer : Obligations.SetptrLoadsThePointer := by
  intro k d n
  refine ⟨decode_functionWord rfl (FieldsRoundTrip.setptraD k d),
    decode_functionWord rfl (FieldsRoundTrip.setptraN k n),
    decode_functionWord rfl (FieldsRoundTrip.setptrbD k d),
    decode_functionWord rfl (FieldsRoundTrip.setptrbN k n), by simp [clockBounds], fun s hk => ?_⟩
  exact ⟨fun he => ⟨whenHolds_setPointer hk (.reg he), whenHolds_setPointer hk (.reg he)⟩,
    whenHolds_setPointer hk (.lit n), whenHolds_setPointer hk (.lit n)⟩

/-- Settles O54: the sum of the words of 17 bits is the sum of the numbers modulo 2^17. -/
theorem addptrAddsModuloTheWidth : Obligations.AddptrAddsModuloTheWidth := by
  intro k d n
  refine ⟨decode_functionWord rfl (FieldsRoundTrip.addptraD k d),
    decode_functionWord rfl (FieldsRoundTrip.addptraN k n),
    decode_functionWord rfl (FieldsRoundTrip.addptrbD k d),
    decode_functionWord rfl (FieldsRoundTrip.addptrbN k n), by simp [clockBounds], fun s hk => ?_⟩
  exact ⟨fun he => ⟨whenHolds_addPointer hk (.reg he), whenHolds_addPointer hk (.reg he)⟩,
    whenHolds_addPointer hk (.lit n), whenHolds_addPointer hk (.lit n)⟩

/-- Settles O55: the difference of the words of 17 bits is that of the numbers, over the integers, modulo
2^17. -/
theorem subptrSubtractsModuloTheWidth : Obligations.SubptrSubtractsModuloTheWidth := by
  intro k d n
  refine ⟨decode_functionWord rfl (FieldsRoundTrip.subptraD k d),
    decode_functionWord rfl (FieldsRoundTrip.subptraN k n),
    decode_functionWord rfl (FieldsRoundTrip.subptrbD k d),
    decode_functionWord rfl (FieldsRoundTrip.subptrbN k n), by simp [clockBounds], fun s hk => ?_⟩
  exact ⟨fun he => ⟨whenHolds_subPointer hk (.reg he), whenHolds_subPointer hk (.reg he)⟩,
    whenHolds_subPointer hk (.lit n), whenHolds_subPointer hk (.lit n)⟩

end Sys2Proof.Machine
end

