-- ==== Sys2Proof/Proofs/Quad.lean ====
section
/-!
PROOF of the statement about CACHEX (R221). A hit needs CV, so no address hits after CACHEX and every lookup
is a fill.
-/

namespace Sys2Proof.Machine

/-- A state with CV = 0 has no cached window (R26, R70). -/
theorem State.hits_of_cv_eq_false {s : State} (h : s.cv = false) (a : HubAddr) : s.hits a = false := by
  rw [State.hits, h, Bool.false_and]

theorem cacheLookup_of_hits_eq_false {s : State} {a : HubAddr} (h : s.hits a = false) :
    cacheLookup a s = cacheFill a s := by
  simp [cacheLookup, h]

theorem exec_cachex_of_holds {k : Cond} {s : State} (hk : s.holds k = true) :
    exec (.cachex k) s = .next s.invalidate :=
  whenHolds_of_holds (effect := fun s₀ => .next s₀.invalidate) hk

/-- Settles O48: CACHEX clears CV, without which no address hits. -/
theorem cachexInvalidates : Obligations.CachexInvalidates := by
  intro k
  refine ⟨decode_functionWord rfl (Laws.FieldsRoundTrip.cachex k), fun _ => rfl, fun s hk => ?_⟩
  refine ⟨exec_cachex_of_holds hk, fun a => ?_⟩
  have hmiss : s.invalidate.hits a = false := State.hits_of_cv_eq_false s.invalidate_cv a
  exact ⟨hmiss, cacheLookup_of_hits_eq_false hmiss⟩

end Sys2Proof.Machine
end

