-- ==== Sys2Proof/Proofs/Other.lean ====
section
/-!
PROOF of the statements about the machine as a whole: the encoding (R100 to R113), the step (R140), what each
instruction and each step keeps, and what the instructions over registers, hub, QUADs, pointers and tasks do.
The frames and invariants go through `KeptBy`: what every update of the state keeps, every instruction keeps.
-/

namespace Sys2Proof

/-! ## Encoding -/

open Laws

/-- The decoder reads back the fields the encoder writes, for every instruction. -/
theorem fieldsRoundTrip : ∀ i : Instr, FieldsRoundTrip.Statement i
  | .wrbyteDS k d x => FieldsRoundTrip.wrbyteDS k d x
  | .wrbyteDPtr k d e => FieldsRoundTrip.wrbyteDPtr k d e
  | .rdbyteDS z k d x => FieldsRoundTrip.rdbyteDS z k d x
  | .rdbyteDPtr z k d e => FieldsRoundTrip.rdbyteDPtr z k d e
  | .rdbytecDS z k d x => FieldsRoundTrip.rdbytecDS z k d x
  | .rdbytecDPtr z k d e => FieldsRoundTrip.rdbytecDPtr z k d e
  | .wrwordDS k d x => FieldsRoundTrip.wrwordDS k d x
  | .wrwordDPtr k d e => FieldsRoundTrip.wrwordDPtr k d e
  | .rdwordDS z k d x => FieldsRoundTrip.rdwordDS z k d x
  | .rdwordDPtr z k d e => FieldsRoundTrip.rdwordDPtr z k d e
  | .rdwordcDS z k d x => FieldsRoundTrip.rdwordcDS z k d x
  | .rdwordcDPtr z k d e => FieldsRoundTrip.rdwordcDPtr z k d e
  | .wrlongDS k d x => FieldsRoundTrip.wrlongDS k d x
  | .wrlongDPtr k d e => FieldsRoundTrip.wrlongDPtr k d e
  | .rdlongDS z k d x => FieldsRoundTrip.rdlongDS z k d x
  | .rdlongDPtr z k d e => FieldsRoundTrip.rdlongDPtr z k d e
  | .rdlongcDS z k d x => FieldsRoundTrip.rdlongcDS z k d x
  | .rdlongcDPtr z k d e => FieldsRoundTrip.rdlongcDPtr z k d e
  | .wrquadD k d => FieldsRoundTrip.wrquadD k d
  | .wrquadPtr k e => FieldsRoundTrip.wrquadPtr k e
  | .rdquadD k d => FieldsRoundTrip.rdquadD k d
  | .rdquadPtr k e => FieldsRoundTrip.rdquadPtr k e
  | .rdquadcD k d => FieldsRoundTrip.rdquadcD k d
  | .rdquadcPtr k e => FieldsRoundTrip.rdquadcPtr k e
  | .getptraD z c r k d => FieldsRoundTrip.getptraD z c r k d
  | .getptrbD z c r k d => FieldsRoundTrip.getptrbD z c r k d
  | .setptraD k d => FieldsRoundTrip.setptraD k d
  | .setptraN k n => FieldsRoundTrip.setptraN k n
  | .setptrbD k d => FieldsRoundTrip.setptrbD k d
  | .setptrbN k n => FieldsRoundTrip.setptrbN k n
  | .addptraD k d => FieldsRoundTrip.addptraD k d
  | .addptraN k n => FieldsRoundTrip.addptraN k n
  | .addptrbD k d => FieldsRoundTrip.addptrbD k d
  | .addptrbN k n => FieldsRoundTrip.addptrbN k n
  | .subptraD k d => FieldsRoundTrip.subptraD k d
  | .subptraN k n => FieldsRoundTrip.subptraN k n
  | .subptrbD k d => FieldsRoundTrip.subptrbD k d
  | .subptrbN k n => FieldsRoundTrip.subptrbN k n
  | .cachex k => FieldsRoundTrip.cachex k
  | .gettopsD z k d => FieldsRoundTrip.gettopsD z k d
  | .setquadD k d => FieldsRoundTrip.setquadD k d
  | .setquadN k n => FieldsRoundTrip.setquadN k n
  | .settaskN n => FieldsRoundTrip.settaskN n
  | .settaskD d => FieldsRoundTrip.settaskD d
  | .jmptask a m => FieldsRoundTrip.jmptask a m
  | .jmpA a => FieldsRoundTrip.jmpA a
  | .notpN n => FieldsRoundTrip.notpN n

/-- The fields of a word built from fields are those fields (R101). -/
theorem fieldsOf_toWord (f : Fields) : fieldsOf f.toWord = f := by
  obtain ⟨op, z, c, r, i, cond, d, s⟩ := f
  -- The lemmas about `++` find the parts only where the width 32 is written as the sum of theirs.
  obtain ⟨w, hw⟩ : ∃ w : BitVec (6 + 1 + 1 + 1 + 1 + 4 + 9 + 9), w = op ++ BitVec.ofBool z ++
      BitVec.ofBool c ++ BitVec.ofBool r ++ BitVec.ofBool i ++ cond ++ d ++ s := ⟨_, rfl⟩
  have hfields : fieldsOf (Fields.toWord ⟨op, z, c, r, i, cond, d, s⟩) =
      ⟨w.extractLsb' 26 6, w.getLsbD 25, w.getLsbD 24, w.getLsbD 23, w.getLsbD 22,
        w.extractLsb' 18 4, w.extractLsb' 9 9, w.extractLsb' 0 9⟩ := by rw [hw]; rfl
  rw [hfields, hw]
  simp [BitVec.extractLsb'_append_eq_ite, BitVec.getElem_append, -Nat.reduceAdd]

theorem ofBool_getLsbD (w : Long) (j : Nat) : BitVec.ofBool (w.getLsbD j) = w.extractLsb' j 1 := by
  ext n hn
  obtain rfl : n = 0 := by omega
  simp [BitVec.getElem_extractLsb']

/-- The word built from the fields of a word is that word: the fields leave out no bit (R101). -/
theorem toWord_fieldsOf (w : Long) : (fieldsOf w).toWord = w := by
  simp only [Fields.toWord, fieldsOf, ofBool_getLsbD]
  iterate 7 rw [BitVec.extractLsb'_append_extractLsb'_eq_extractLsb' (by rfl)]
  exact BitVec.extractLsb'_eq_self

theorem fieldsOf_injective {w w' : Long} (h : fieldsOf w = fieldsOf w') : w = w' := by
  rw [← toWord_fieldsOf w, h, toWord_fieldsOf]

theorem exists_encodeFields {i : Instr} (hi : i.WellFormed) : ∃ f, encodeFields i = some f := by
  cases i
  case settaskN | settaskD | jmptask | jmpA | notpN => cases hi
  all_goals exact ⟨_, rfl⟩

/-- Settles O1: the word carries the fields of the instruction, from which the decoder reads it back. -/
theorem decodeOfEncodeIsIdentity : Obligations.DecodeOfEncodeIsIdentity := by
  intro i hi
  obtain ⟨f, hf⟩ := exists_encodeFields hi
  refine ⟨f.toWord, by rw [encode, hf]; rfl, ?_⟩
  rw [decode, fieldsOf_toWord]
  exact fieldsRoundTrip i f hf

/-! ### The encoder writes back what was decoded -/

theorem PtrExpr.toField_ofField (n : BitVec 9) : (PtrExpr.ofField n).toField = n := by
  have h : ∀ n : BitVec 9, (PtrExpr.ofField n).toField = n := by decide
  exact h n

section
variable {f : Fields} {i : Instr}

theorem encodeFields_of_decodeSized {op : BitVec 6}
    {wr : Cond → CogAddr → CogAddr → Instr} {wrP : Cond → CogAddr → PtrExpr → Instr}
    {rd rdc : Bool → Cond → CogAddr → CogAddr → Instr} {rdP rdcP : Bool → Cond → CogAddr → PtrExpr → Instr}
    (hwr : ∀ k d x, encodeFields (wr k d x) = some (sizedFields op false false false false k d x))
    (hwrP : ∀ k d e, encodeFields (wrP k d e) = some (sizedFields op false false false true k d e.toField))
    (hrd : ∀ z k d x, encodeFields (rd z k d x) = some (sizedFields op z false true false k d x))
    (hrdP : ∀ z k d e, encodeFields (rdP z k d e) = some (sizedFields op z false true true k d e.toField))
    (hrdc : ∀ z k d x, encodeFields (rdc z k d x) = some (sizedFields op z true true false k d x))
    (hrdcP : ∀ z k d e, encodeFields (rdcP z k d e) = some (sizedFields op z true true true k d e.toField))
    (hop : f.op = op) (h : decodeSized wr wrP rd rdP rdc rdcP f = .ok i) : encodeFields i = some f := by
  obtain ⟨o, z, c, r, b, k, d, s⟩ := f
  obtain rfl : o = op := hop
  simp only [decodeSized] at h
  split at h <;> cases h
  · exact hwr k d s
  · rw [hwrP, PtrExpr.toField_ofField]; rfl
  · exact hrd z k d s
  · rw [hrdP, PtrExpr.toField_ofField]; rfl
  · exact hrdc z k d s
  · rw [hrdcP, PtrExpr.toField_ofField]; rfl

theorem encodeFields_of_decodeRegOrLit {code : BitVec 9} {reg : Cond → CogAddr → Instr}
    {lit : Cond → BitVec 9 → Instr}
    (hreg : ∀ k d, encodeFields (reg k d) = some (functionFields code false false false true k d))
    (hlit : ∀ k n, encodeFields (lit k n) = some (functionFields code false false true true k n))
    (hop : f.op = 0b000011#6) (hs : f.s = code) (h : decodeRegOrLit reg lit f = .ok i) :
    encodeFields i = some f := by
  obtain ⟨o, z, c, r, b, k, d, s⟩ := f
  obtain rfl : o = 0b000011#6 := hop
  obtain rfl : s = code := hs
  simp only [decodeRegOrLit] at h
  split at h <;> cases h
  · exact hreg k d
  · exact hlit k d

theorem encodeFields_of_decodeGetptr {code : BitVec 9} {mk : Bool → Bool → Bool → Cond → CogAddr → Instr}
    (hmk : ∀ z c r k d, encodeFields (mk z c r k d) = some (functionFields code z c r true k d))
    (hop : f.op = 0b000011#6) (hs : f.s = code) (h : decodeGetptr mk f = .ok i) :
    encodeFields i = some f := by
  obtain ⟨o, z, c, r, b, k, d, s⟩ := f
  obtain rfl : o = 0b000011#6 := hop
  obtain rfl : s = code := hs
  cases b <;> cases h
  exact hmk z c r k d

theorem encodeFields_of_decodeWrquad (hop : f.op = 0b000011#6) (hs : f.s = 0b010110000#9)
    (h : decodeWrquad f = .ok i) : encodeFields i = some f := by
  obtain ⟨o, z, c, r, b, k, d, s⟩ := f
  obtain rfl : o = 0b000011#6 := hop
  obtain rfl : s = 0b010110000#9 := hs
  simp only [decodeWrquad] at h
  split at h <;> cases h
  · rfl
  · rw [encodeFields, PtrExpr.toField_ofField]; rfl

theorem encodeFields_of_decodeRdquad (hop : f.op = 0b000011#6) (hs : f.s = 0b010110001#9)
    (h : decodeRdquad f = .ok i) : encodeFields i = some f := by
  obtain ⟨o, z, c, r, b, k, d, s⟩ := f
  obtain rfl : o = 0b000011#6 := hop
  obtain rfl : s = 0b010110001#9 := hs
  simp only [decodeRdquad] at h
  split at h <;> cases h
  · rfl
  · rw [encodeFields, PtrExpr.toField_ofField]; rfl
  · rfl
  · rw [encodeFields, PtrExpr.toField_ofField]; rfl

theorem encodeFields_of_decodeCachex (hop : f.op = 0b000011#6) (hs : f.s = 0b000001000#9)
    (h : decodeCachex f = .ok i) : encodeFields i = some f := by
  obtain ⟨o, z, c, r, b, k, d, s⟩ := f
  obtain rfl : o = 0b000011#6 := hop
  obtain rfl : s = 0b000001000#9 := hs
  simp only [decodeCachex] at h
  split at h
  · split at h <;> cases h
    obtain rfl : d = 0#9 := ‹_›
    rfl
  · cases h

theorem encodeFields_of_decodeGettops (hop : f.op = 0b000011#6) (hs : f.s = 0b000010001#9)
    (h : decodeGettops f = .ok i) : encodeFields i = some f := by
  obtain ⟨o, z, c, r, b, k, d, s⟩ := f
  obtain rfl : o = 0b000011#6 := hop
  obtain rfl : s = 0b000010001#9 := hs
  simp only [decodeGettops] at h
  split at h <;> cases h
  rfl

theorem encodeFields_of_decodeFunction (hop : f.op = 0b000011#6) (h : decodeFunction f = .ok i) :
    encodeFields i = some f := by
  rcases ite_eq_iff.1 h with ⟨hs, h⟩ | ⟨-, h⟩
  · exact encodeFields_of_decodeCachex hop hs h
  rcases ite_eq_iff.1 h with ⟨hs, h⟩ | ⟨-, h⟩
  · exact encodeFields_of_decodeGettops hop hs h
  rcases ite_eq_iff.1 h with ⟨hs, h⟩ | ⟨-, h⟩
  · exact encodeFields_of_decodeGetptr (fun _ _ _ _ _ => rfl) hop hs h
  rcases ite_eq_iff.1 h with ⟨hs, h⟩ | ⟨-, h⟩
  · exact encodeFields_of_decodeGetptr (fun _ _ _ _ _ => rfl) hop hs h
  rcases ite_eq_iff.1 h with ⟨hs, h⟩ | ⟨-, h⟩
  · exact encodeFields_of_decodeWrquad hop hs h
  rcases ite_eq_iff.1 h with ⟨hs, h⟩ | ⟨-, h⟩
  · exact encodeFields_of_decodeRdquad hop hs h
  iterate 7
    rcases ite_eq_iff.1 h with ⟨hs, h⟩ | ⟨-, h⟩
    · exact encodeFields_of_decodeRegOrLit (fun _ _ => rfl) (fun _ _ => rfl) hop hs h
  cases h

/-- The encoder writes back the fields an instruction was decoded from (R110). -/
theorem encodeFields_of_decodeFields (h : decodeFields f = .ok i) : encodeFields i = some f := by
  iterate 3
    rcases ite_eq_iff.1 h with ⟨hop, h⟩ | ⟨-, h⟩
    · exact encodeFields_of_decodeSized (fun _ _ _ => rfl) (fun _ _ _ => rfl) (fun _ _ _ _ => rfl)
        (fun _ _ _ _ => rfl) (fun _ _ _ _ => rfl) (fun _ _ _ _ => rfl) hop h
  rcases ite_eq_iff.1 h with ⟨hop, h⟩ | ⟨-, h⟩
  · exact encodeFields_of_decodeFunction hop h
  · cases h

end

/-- Settles O2: the encoder writes back the fields of the word, which make up the whole word. -/
theorem encodeOfDecodeIsIdentity : Obligations.EncodeOfDecodeIsIdentity := by
  intro w i h
  rw [encode, encodeFields_of_decodeFields h]
  exact congrArg some (toWord_fieldsOf w)

/-- Settles O5: a word that decoded to the term would be the word the encoder writes for it. -/
theorem taskTermsHaveNoWord : Obligations.TaskTermsHaveNoWord := by
  intro term
  have hnone : encode term.toInstr = none := by cases term <;> rfl
  refine ⟨hnone, fun w h => ?_⟩
  rw [encodeOfDecodeIsIdentity w _ h] at hnone
  cases hnone

/-- Settles O6: the eight words, decoded. -/
theorem sampleWordsDecode : Obligations.SampleWordsDecode := by
  refine ⟨?_, ?_, ?_, ?_, ?_, ?_, ?_, ?_⟩ <;> decide

/-! ### The rows of the opcode table -/

/-- The bits of each field that two words have in common. -/
def Fields.and (f g : Fields) : Fields :=
  ⟨f.op &&& g.op, f.z && g.z, f.c && g.c, f.r && g.r, f.i && g.i, f.cond &&& g.cond, f.d &&& g.d, f.s &&& g.s⟩

theorem fieldsOf_and (w m : Long) : fieldsOf (w &&& m) = (fieldsOf w).and (fieldsOf m) := by
  simp [fieldsOf, Fields.and, BitVec.extractLsb'_and]

/-- A row accepts a word by its fields: those the mask names are the pattern's (R110). -/
theorem OpcodeRow.accepts_iff {row : OpcodeRow} {w : Long} :
    row.accepts w = true ↔ (fieldsOf w).and (fieldsOf row.mask) = fieldsOf row.pattern := by
  rw [← fieldsOf_and, OpcodeRow.accepts, beq_iff_eq]
  exact ⟨congrArg fieldsOf, fieldsOf_injective⟩

/-- Each encoded instruction has its row, at the place of its constructor. -/
theorem row_of_encodeFields {i : Instr} {f : Fields} (h : encodeFields i = some f) :
    ∃ row, opcodeTable[i.ctorIdx]? = some row ∧ f.and (fieldsOf row.mask) = fieldsOf row.pattern := by
  cases i <;> cases h <;> exact ⟨_, rfl, by simp [Fields.and, fieldsOf, sizedFields, functionFields]⟩

theorem and_ones_op (x : BitVec 6) : x &&& 63#6 = x := BitVec.and_allOnes

theorem and_ones_field (x : BitVec 9) : x &&& 511#9 = x := BitVec.and_allOnes

/-- The fields a row's mask leaves free do not matter to the decoder. -/
theorem decodes_of_row : ∀ row ∈ opcodeTable, ∀ f : Fields,
    f.and (fieldsOf row.mask) = fieldsOf row.pattern → ∃ i, decodeFields f = .ok i := by
  simp only [opcodeTable, opcodeRowsA, opcodeRowsB, opcodeRowsC, List.cons_append, List.nil_append,
    List.forall_mem_cons]
  refine ⟨?_, ?_, ?_, ?_, ?_, ?_, ?_, ?_, ?_, ?_, ?_, ?_, ?_, ?_, ?_, ?_, ?_, ?_, ?_, ?_, ?_, ?_, ?_, ?_, ?_,
    ?_, ?_, ?_, ?_, ?_, ?_, ?_, ?_, ?_, ?_, ?_, ?_, ?_, ?_, ?_, ?_, ?_, nofun⟩
  all_goals
    rintro ⟨o, z, c, r, b, k, d, s⟩ h
    simp [Fields.and, fieldsOf, and_ones_op, and_ones_field] at h
    simp [decodeFields, decodeFunction, decodeSized, decodeRegOrLit, decodeWrquad, decodeRdquad, decodeCachex,
      decodeGettops, decodeGetptr, h]
theorem exists_decode_iff (w : Long) :
    (∃ i, decode w = .ok i) ↔ ∃ row ∈ opcodeTable, row.accepts w = true := by
  constructor
  · rintro ⟨i, hi⟩
    obtain ⟨row, hrow, hf⟩ := row_of_encodeFields (encodeFields_of_decodeFields hi)
    exact ⟨row, List.mem_of_getElem? hrow, OpcodeRow.accepts_iff.2 hf⟩
  · rintro ⟨row, hrow, hw⟩
    exact decodes_of_row row hrow _ (OpcodeRow.accepts_iff.1 hw)

/-- No word has the pattern of both rows: under the bits both masks name, the patterns differ. -/
def OpcodeRow.Disjoint (r₁ r₂ : OpcodeRow) : Prop := r₁.pattern &&& r₂.mask ≠ r₂.pattern &&& r₁.mask

theorem OpcodeRow.not_accepts_of_disjoint {r₁ r₂ : OpcodeRow} {w : Long} (h : r₁.Disjoint r₂)
    (h₁ : r₁.accepts w = true) (h₂ : r₂.accepts w = true) : False := by
  simp only [OpcodeRow.accepts, beq_iff_eq] at h₁ h₂
  refine h ?_
  rw [← h₁, ← h₂, BitVec.and_assoc, BitVec.and_assoc, BitVec.and_comm r₁.mask]

theorem opcodeTable_pairwise_disjoint : opcodeTable.Pairwise OpcodeRow.Disjoint := by
  unfold OpcodeRow.Disjoint
  decide

/-- Settles O3: a decoded word has its row, the fields a mask leaves free do not matter to the decoder, and
the masks and patterns of two rows exclude each other. -/
theorem decoderAcceptsExactlyTheTableRows : Obligations.DecoderAcceptsExactlyTheTableRows := by
  refine ⟨exists_decode_iff, fun w r₁ h₁ r₂ h₂ ha₁ ha₂ => ?_⟩
  by_contra hne
  have hsymm : Std.Symm OpcodeRow.Disjoint := ⟨fun _ _ h => Ne.symm h⟩
  exact OpcodeRow.not_accepts_of_disjoint (opcodeTable_pairwise_disjoint.forall h₁ h₂ hne) ha₁ ha₂

end Sys2Proof

namespace Sys2Proof.Machine

/-! ## The step -/

/-! ### What the slot begins with -/

section
variable {s s₁ : State}

theorem step_of_beginSlot (h : beginSlot s = .next s₁) :
    step s = andThen (fetch s₁) fun i => andThen (exec i s₁.advance) fun t => .next (endSlot i t) := by
  rw [step, h]
  rfl

theorem step_of_fetch {i : Instr} (hb : beginSlot s = .next s₁) (hf : fetch s₁ = .next i) :
    step s = andThen (exec i s₁.advance) fun t => .next (endSlot i t) := by
  rw [step_of_beginSlot hb, hf]
  rfl

theorem beginSlot_of_others_nil (h : s.others = []) : beginSlot s = .next s.tick := by
  rw [beginSlot, h]

theorem beginSlot_rom (h : applyWrites (s.others.headD []) s.hub = none) :
    beginSlot s = .refused .romWrite := by
  cases ho : s.others with
  | nil =>
    rw [ho] at h
    cases h
  | cons now later =>
    rw [ho] at h
    simp only [List.headD_cons] at h
    simp only [beginSlot, ho, h]

end

/-! ### The fetch -/

section
variable {s : State}

theorem fetch_of_fetchable (h : fetchable s s.pc) : fetch s = instrOf (s.word s.pc) := by
  rw [fetch, fetchWord_eq_next.2 ⟨h.1, h.2, rfl⟩]
  rfl

theorem fetch_quadNotExecutable (ho : s.overlaid s.pc = true) (hq : 0 < s.qex) :
    fetch s = .fault .quadNotExecutable := by
  simp [fetch, fetchWord, ho, Nat.ne_of_gt hq]

theorem fetch_afterWrite (hq : s.overlaid s.pc = true → s.qex = 0) (hw : s.writtenTooRecently s.pc = true) :
    fetch s = .fault .fetchAfterWrite := by
  have hn : ¬ (s.overlaid s.pc = true ∧ s.qex ≠ 0) := fun ⟨ho, hne⟩ => hne (hq ho)
  rw [fetch, fetchWord, if_neg hn, if_pos hw]
  rfl

/-- What no instruction of this run has written can be fetched (R267). -/
theorem not_writtenTooRecently_of_none {a : CogAddr} (h : s.lastWrite a = none) :
    s.writtenTooRecently a = false := by
  simp [State.writtenTooRecently, h]

/-- Without ExecAfterWrite, what was written cannot be fetched (R267). -/
theorem writtenTooRecently_of_not_given {a : CogAddr} {k : Nat} (h : s.lastWrite a = some k)
    (hp : s.params.execAfterWrite = none) : s.writtenTooRecently a = true := by
  simp [State.writtenTooRecently, h, hp]

theorem writtenTooRecently_of_given {a : CogAddr} {k n : Nat} (h : s.lastWrite a = some k)
    (hp : s.params.execAfterWrite = some n) : s.writtenTooRecently a = decide (s.steps ≤ k + n) := by
  simp [State.writtenTooRecently, h, hp]

end

/-- Settles O4: no row accepts the word, so the decoder refuses it, and the step with it. -/
theorem unlistedWordIsRefused : Obligations.UnlistedWordIsRefused := by
  intro s s₁ w hb hw hf hrows
  cases hd : decode w with
  | ok i =>
    obtain ⟨row, hrow, ha⟩ := (exists_decode_iff w).1 ⟨i, hd⟩
    rw [hrows row hrow] at ha
    cases ha
  | error why =>
    refine ⟨why, ?_⟩
    rw [step_of_beginSlot hb, fetch_of_fetchable hf, hw]
    simp only [instrOf, hd, andThen_refused]

/-- Settles O7: the fetch answers what the location's word decodes to. -/
theorem stepRunsDecodedInstruction : Obligations.StepRunsDecodedInstruction := by
  intro s w i hs hw hd hf
  refine step_of_fetch (beginSlot_of_others_nil hs) ((fetch_of_fetchable hf).trans ?_)
  rw [show s.tick.word s.tick.pc = .long w from hw]
  exact instrOf_long_eq_next.2 hd

/-- Settles O8: the fetch answers the term the location holds. -/
theorem stepRunsPlacedTerm : Obligations.StepRunsPlacedTerm := by
  intro s term hs hw hf
  refine step_of_fetch (beginSlot_of_others_nil hs) ((fetch_of_fetchable hf).trans ?_)
  rw [show s.tick.word s.tick.pc = .term term from hw]
  exact instrOf_term term

/-- Settles O9: the slot begins with the other cogs' writes, and is refused where they are. -/
theorem otherCogsReachOnlyTheHub : Obligations.OtherCogsReachOnlyTheHub := by
  constructor
  · intro s t h
    obtain ⟨m, hm, rfl⟩ := beginSlot_eq_next.1 h
    exact ⟨rfl, hm⟩
  · intro s h
    rw [step, beginSlot_rom h]
    rfl

/-- Settles O13: the fetch reads registers, QUADs and the records of writes, and no hub byte. -/
theorem fetchIgnoresTheHub : Obligations.FetchIgnoresTheHub := fun _ _ => rfl

/-- Settles O14: the fetch is decided by the overlay's counter, then by the step of the last write. -/
theorem earlyFetchFaults : Obligations.EarlyFetchFaults := by
  intro s s₁ hb
  have hstep {f : Fault} (hf : fetch s₁ = .fault f) : step s = .fault f := by
    rw [step_of_beginSlot hb, hf]
    rfl
  refine ⟨fun ho hq => hstep (fetch_quadNotExecutable ho hq), fun hq w hw => ?_⟩
  have hlast : s₁.lastWrite s₁.pc = w := hw
  refine ⟨fun hnone => ?_, fun k hk => ⟨fun hp => ?_, fun n hp => ⟨fun hle => ?_, fun hlt => ?_⟩⟩⟩
  · exact fetch_of_fetchable ⟨hq, not_writtenTooRecently_of_none (hlast.trans hnone)⟩
  · exact hstep (fetch_afterWrite hq (writtenTooRecently_of_not_given (hlast.trans hk) hp))
  · exact hstep (fetch_afterWrite hq
      ((writtenTooRecently_of_given (hlast.trans hk) hp).trans (decide_eq_true hle)))
  · exact fetch_of_fetchable ⟨hq,
      (writtenTooRecently_of_given (hlast.trans hk) hp).trans (decide_eq_false (Nat.not_le.2 hlt))⟩

end Sys2Proof.Machine

namespace Sys2Proof.Machine

/-! ## What an instruction keeps -/

/-- Every update of the state that `i`, run in `s`, can be made of keeps `P`: what a proof that `P` is kept
has to show, update by update, with what is known where `exec` makes the update. -/
structure KeptBy (i : Instr) (s : State) (P : State → Prop) : Prop where
  ptr : ∀ u b v,
    (pointerWritten i = some b ∨ ∃ k e n, ptrForm i = some (k, e, n) ∧ e.useB = b ∧ e.update = true) →
    P u → P (u.setPtr b v) := by simp +contextual
  store : writesHub i = true → ∀ u n a (bs : List Byte), n = 1 ∨ n = 2 ∨ n = 4 ∨ n = 16 → bs.length = n →
    romEnd ≤ unitBase n a → P u →
    P { u with hub := u.hub.setBytes (unitBase n a) bs, windowWritten := u.windowWritten || u.hits a } := by
      simp +contextual
  fill : canFill i = true → ∀ u a q cv w, u.hub.readQuad a = some q → (cv = true → w = windowOf a) →
    P u → P (u.loadQuads q cv w) := by simp +contextual
  reg : ∀ u d v, u.qbase = s.qbase → P u → P (u.setX d v) := by simp +contextual
  flagZ : zBit i = true → ∀ u b, u.flagIndex = s.flagIndex → P u → P (u.setZ b) := by simp +contextual
  flagC : cBit i = true → ∀ u, u.flagIndex = s.flagIndex → P u → P (u.drawC true) := by simp +contextual
  cache : ∀ k, i = .cachex k → ∀ u, P u → P u.invalidate := by simp +contextual
  base : ((∃ k d, i = .setquadD k d) ∨ ∃ k n, i = .setquadN k n) → ∀ u v, P u → P (u.setQbase v) := by
    simp +contextual
  task : isSettask i = true → ∀ u v, P u → P (u.setTask v) := by simp +contextual
  counters : ∀ a m, i = .jmptask a m → ∀ u p, P u → P { u with pcs := p } := by simp +contextual
  jump : ∀ a, i = .jmpA a → ∀ u, u.currentTask = s.currentTask → P u →
    P (u.setPc u.currentTask (a.setWidth 9)) := by simp +contextual
  pin : ∀ n, i = .notpN n → ∀ u, n.toNat < u.params.npins → P u → P (u.togglePin n.toNat) := by
    simp +contextual

@[simp] theorem State.setX_flagIndex (s : State) (a : CogAddr) (v : Long) :
    (s.setX a v).flagIndex = s.flagIndex := by
  simp [State.flagIndex, State.currentTask]

@[simp] theorem State.writeD_flagIndex (s : State) (r : Bool) (a : CogAddr) (v : Long) :
    (s.writeD r a v).flagIndex = s.flagIndex := by
  simp [State.flagIndex, State.currentTask]

@[simp] theorem State.writeZ_flagIndex (s : State) (zb : Bool) (src : ZSource) (v : Long) :
    (s.writeZ zb src v).flagIndex = s.flagIndex := by
  simp [State.flagIndex, State.currentTask]

/-- What no write of a pointer changes is as before beside the address of an operand. -/
theorem hubAddress_keeps {α : Type} (f : State → α) (hf : ∀ u b v, f (u.setPtr b v) = f u) {op : HubOperand}
    {n : Nat} {s : State} {p : HubAddr × State} (h : hubAddress op n s = .next p) : f p.2 = f s := by
  rcases hubAddress_state h with h | ⟨e, -, h⟩ <;> rw [h]
  unfold ptrUpdate
  split
  · exact hf _ _ _
  · rfl

/-- What no fill changes is as before after a lookup. -/
theorem cacheLookup_keeps {α : Type} (f : State → α) (hf : ∀ u q cv w, f (State.loadQuads q cv w u) = f u)
    {a : HubAddr} {u v : State} (h : cacheLookup a u = .next v) : f v = f u := by
  rcases cacheLookup_eq_next.1 h with ⟨-, -, -, rfl⟩ | ⟨-, q, -, rfl⟩
  · rfl
  · exact hf _ _ _ _

section
variable {i : Instr} {s t : State} {P : State → Prop}

theorem KeptBy.of_hubAddress (hP : KeptBy i s P) {op : HubOperand} {n : Nat} {p : HubAddr × State}
    (hop : PtrOperandOf i n op) (hp : hubAddress op n s = .next p) (hs : P s) : P p.2 := by
  rcases hubAddress_state hp with h | ⟨e, rfl, h⟩
  · rwa [h]
  · obtain ⟨k, hk⟩ := hop e rfl
    rw [h, ptrUpdate]
    split
    · exact hP.ptr _ _ _ (.inr ⟨k, e, n, hk, rfl, ‹_›⟩) hs
    · exact hs

theorem KeptBy.of_cacheLookup (hP : KeptBy i s P) (hi : canFill i = true) {a : HubAddr} {u v : State}
    (h : cacheLookup a u = .next v) (hu : P u) : P v := by
  rcases cacheLookup_eq_next.1 h with ⟨-, -, -, rfl⟩ | ⟨-, q, hq, rfl⟩
  · exact hu
  · exact hP.fill hi _ _ _ _ _ hq (fun _ => rfl) hu

theorem KeptBy.of_writeZ (hP : KeptBy i s P) {src : ZSource} {v : Long} {u : State}
    (hf : u.flagIndex = s.flagIndex) (hu : P u) : P (u.writeZ (zBit i) src v) := by
  cases hz : zBit i
  · exact hu
  · exact hP.flagZ hz _ _ hf hu

/-- The write of a result, to D and to Z. -/
theorem KeptBy.of_result (hP : KeptBy i s P) {src : ZSource} {d : CogAddr} {v : Long} {u : State}
    (hq : u.qbase = s.qbase) (hf : u.flagIndex = s.flagIndex) (hu : P u) :
    P ((u.setX d v).writeZ (zBit i) src v) :=
  hP.of_writeZ ((u.setX_flagIndex d v).trans hf) (hP.reg _ _ _ hq hu)

/-- What every update of an instruction keeps, the instruction keeps. -/
theorem KeptBy.of_exec (hP : KeptBy i s P) (hs : P s) (h : exec i s = .next t) : P t := by
  have hq {op : HubOperand} {n : Nat} {p : HubAddr × State} (hp : hubAddress op n s = .next p) :
      p.2.qbase = s.qbase := hubAddress_keeps State.qbase State.setPtr_qbase hp
  have hf {op : HubOperand} {n : Nat} {p : HubAddr × State} (hp : hubAddress op n s = .next p) :
      p.2.flagIndex = s.flagIndex :=
    hubAddress_keeps State.flagIndex (fun u b v => by cases b <;> rfl) hp
  cases effect_of_exec h with
  | skipped ht => exact ht ▸ hs
  | stored n op p bs hi hn hl hop hp ht =>
    obtain ⟨hr, rfl⟩ := store_eq_next.1 ht
    exact hP.store hi _ _ _ _ hn hl hr (hP.of_hubAddress hop hp hs)
  | loaded sz src d op p v hop hp hv ht =>
    exact ht ▸ hP.of_result (hq hp) (hf hp) (hP.of_hubAddress hop hp hs)
  | cached sz src d op p u hi hop hp hu ht =>
    have hqu := cacheLookup_keeps State.qbase State.loadQuads_qbase hu
    have hfu := cacheLookup_keeps State.flagIndex (fun _ _ _ _ => rfl) hu
    exact ht ▸ hP.of_result (hqu.trans (hq hp)) (hfu.trans (hf hp))
      (hP.of_cacheLookup hi hu (hP.of_hubAddress hop hp hs))
  | quadLoaded op p hi hop hp ht =>
    obtain ⟨q, hr, rfl⟩ := explicitRdquad_eq_next.1 ht
    split
    · exact hP.fill hi _ _ _ _ _ hr (fun _ => rfl) (hP.of_hubAddress hop hp hs)
    · exact hP.fill hi _ _ _ _ _ hr nofun (hP.of_hubAddress hop hp hs)
  | quadLookedUp op p hi hop hp ht => exact hP.of_cacheLookup hi ht (hP.of_hubAddress hop hp hs)
  | pointerRead b src r d ht =>
    have hD : P (s.writeD r d ((s.ptr b).setWidth 32)) := by
      cases r
      · exact hs
      · exact hP.reg _ _ _ rfl hs
    have hZ := hP.of_writeZ (src := src) (v := (s.ptr b).setWidth 32) (s.writeD_flagIndex r d _) hD
    cases hc : cBit i <;> rw [hc] at ht <;> subst ht
    · exact hZ
    · exact hP.flagC hc _ (by simp) hZ
  | pointerSet b v hi ht => exact ht ▸ hP.ptr _ _ _ (.inl hi) hs
  | invalidated k hi ht => exact ht ▸ hP.cache k hi _ hs
  | topsRead d hq ht => exact ht ▸ hP.of_result rfl rfl hs
  | baseSet v hi ht => exact ht ▸ hP.base hi _ _ hs
  | taskSet v hi ht => exact ht ▸ hP.task hi _ _ hs
  | countersSet a m va vm hi ht => exact ht ▸ hP.counters a m hi _ _ hs
  | jumped a hi ht => exact ht ▸ hP.jump a hi _ rfl hs
  | pinToggled n hi hn ht => exact ht ▸ hP.pin n hi _ hn hs

end

section
variable {i : Instr} {s t : State}

theorem exec_params (h : exec i s = .next t) : t.params = s.params :=
  KeptBy.of_exec (P := fun u => u.params = s.params) {} rfl h

theorem exec_pushPop (h : exec i s = .next t) : t.pushPop = s.pushPop :=
  KeptBy.of_exec (P := fun u => u.pushPop = s.pushPop) {} rfl h

theorem exec_task (hi : isSettask i = false) (h : exec i s = .next t) : t.task = s.task :=
  KeptBy.of_exec (P := fun u => u.task = s.task) { task := by simp [hi] } rfl h

end

/-! ### Who writes what -/

/-- Settles O22: no update but NOTP's reaches OUT. -/
theorem onlyNotpWritesPins : Obligations.OnlyNotpWritesPins := by
  intro i s t h hne
  by_contra hi
  exact hne (KeptBy.of_exec (P := fun u => u.out = s.out)
    { pin := fun n hn => absurd ⟨n, hn⟩ hi } rfl h)

/-- Settles O23: no update but SETQUAD's reaches QBASE, and none but SETTASK's reaches TASK. -/
theorem onlySetquadAndSettaskWriteTheirRegisters :
    Obligations.OnlySetquadAndSettaskWriteTheirRegisters := by
  intro i s t h
  constructor
  · intro hne
    by_contra hi
    exact hne (KeptBy.of_exec (P := fun u => u.qbase = s.qbase) { base := fun hb => absurd hb hi } rfl h)
  · intro hne
    by_contra hi
    exact hne (exec_task (Bool.eq_false_of_not_eq_true hi) h)

theorem State.setFlagPair_getElem (s : State) (p : FlagPair) (k : TaskId) :
    (s.setFlagPair p).flags[k] = if k = s.flagIndex then p else s.flags[k] := by
  simp [Vector.getElem_set, Fin.ext_iff, eq_comm]

theorem State.setZ_getElem (s : State) (b : Bool) (k : TaskId) :
    (s.setZ b).flags[k] = if k = s.flagIndex then { s.flags[k] with z := b } else s.flags[k] := by
  rw [State.setZ, State.setFlagPair_getElem]
  exact ite_congr rfl (fun hk => by rw [State.flagPair, hk]) fun _ => rfl

theorem State.drawC_true_getElem (s : State) (k : TaskId) : (s.drawC true).flags[k] =
    if k = s.flagIndex then { s.flags[k] with c := Config.freeBit s.draws } else s.flags[k] := by
  refine (s.setFlagPair_getElem _ k).trans ?_
  exact ite_congr rfl (fun hk => by rw [State.flagPair, hk]) fun _ => rfl

theorem zValue_resultIsZero {p : Params} (src : ZSource) (v : Long) (hp : p.zRule = .resultIsZero) :
    zValue p src v = true ↔ v.toNat = 0 := by
  simp [zValue, hp, ← BitVec.toNat_inj]

/-- Settles O24: Z and C are written by one update each, which reaches the slot's own pair only. -/
theorem flagsAreWrittenOnlyAsRuled : Obligations.FlagsAreWrittenOnlyAsRuled := by
  refine ⟨fun i s t h => ⟨fun hne => ?_, fun hne => ?_, fun k hk => ?_⟩,
    fun p src v => zValue_resultIsZero src v⟩
  · by_contra hz
    refine hne (KeptBy.of_exec (P := fun u => u.flags[s.flagIndex].z = s.flags[s.flagIndex].z)
      { flagZ := fun h => absurd h hz, flagC := fun _ u _ hu => ?_ } rfl h)
    rw [State.drawC_true_getElem]
    split <;> exact hu
  · by_contra hc
    refine hne (KeptBy.of_exec (P := fun u => u.flags[s.flagIndex].c = s.flags[s.flagIndex].c)
      { flagZ := fun _ u b _ hu => ?_, flagC := fun h => absurd h hc } rfl h)
    rw [State.setZ_getElem]
    split <;> exact hu
  · refine KeptBy.of_exec (P := fun u => u.flags[k] = s.flags[k])
      { flagZ := fun _ u b hf hu => ?_, flagC := fun _ u hf hu => ?_ } rfl h
    · rw [State.setZ_getElem, hf, if_neg hk, hu]
    · rw [State.drawC_true_getElem, hf, if_neg hk, hu]

theorem State.setPtr_ptr (s : State) (b c : Bool) (v : HubAddr) :
    (s.setPtr b v).ptr c = if c = b then v else s.ptr c := by
  cases b <;> cases c <;> rfl

/-- Settles O25: the one update that reaches a pointer names it. -/
theorem pointersAreWrittenOnlyAsRuled : Obligations.PointersAreWrittenOnlyAsRuled := by
  intro i s t b h hne
  by_contra hi
  cases b with
  | false =>
    refine hne (KeptBy.of_exec (P := fun u => u.ptra = s.ptra) { ptr := fun u c v hc hu => ?_ } rfl h)
    cases c
    · exact absurd hc hi
    · exact hu
  | true =>
    refine hne (KeptBy.of_exec (P := fun u => u.ptrb = s.ptrb) { ptr := fun u c v hc hu => ?_ } rfl h)
    cases c
    · exact hu
    · exact absurd hc hi

/-- Settles O26: the hub is reached by the stores only, CV and CTAG by the fills and CACHEX only. -/
theorem hubAndCacheAreWrittenOnlyAsRuled : Obligations.HubAndCacheAreWrittenOnlyAsRuled := by
  intro i s t h
  constructor
  · intro hne
    by_contra hw
    exact hne (KeptBy.of_exec (P := fun u => u.hub = s.hub) { store := fun hi => absurd hi hw } rfl h)
  · intro hne
    by_contra hi
    obtain ⟨hfill, hcachex⟩ := not_or.1 hi
    have hkept : t.cv = s.cv ∧ t.ctag = s.ctag :=
      KeptBy.of_exec (P := fun u => u.cv = s.cv ∧ u.ctag = s.ctag)
        { fill := fun hi => absurd hi hfill, cache := fun k hk => absurd ⟨k, hk⟩ hcachex } ⟨rfl, rfl⟩ h
    exact hne.elim (· hkept.1) (· hkept.2)

/-! ### What a step keeps -/

/-- The instruction a step runs, and what comes before and after it. -/
theorem nextInstr_and_exec_of_step {s t : State} (h : step s = .next t) : ∃ i s₁ u, s.nextInstr = some i ∧
    beginSlot s = .next s₁ ∧ exec i s₁.advance = .next u ∧ endSlot i u = t := by
  obtain ⟨s₁, i, u, hb, hf, hx, ht⟩ := step_eq_next.1 h
  exact ⟨i, s₁, u, nextInstr_of_step hb hf, hb, hx, ht⟩

/-- What the slot's begin leaves to the instruction: hub, counters, count of steps and what the other cogs
still write have moved. -/
theorem beginSlot_eq_of_next {s s₁ : State} (h : beginSlot s = .next s₁) :
    s₁ = { s.tick with hub := s₁.hub, others := s₁.others } := by
  obtain ⟨m, -, rfl⟩ := beginSlot_eq_next.1 h
  rfl

/-- Settles O27: neither the begin and end of a slot nor any update of an instruction reaches them. -/
theorem pushPopAndParametersNeverChange : Obligations.PushPopAndParametersNeverChange := by
  intro s t h
  obtain ⟨i, s₁, u, -, hb, hx, rfl⟩ := nextInstr_and_exec_of_step h
  rw [endSlot_pushPop, endSlot_params, exec_pushPop hx, exec_params hx, beginSlot_eq_of_next hb]
  exact ⟨rfl, rfl⟩

theorem State.advance_getElem (s : State) (k : TaskId) :
    s.advance.pcs[k] = if k = s.currentTask then s.pcs[k] + 1#9 else s.pcs[k] := by
  rw [State.advance, State.setPc_getElem]
  split
  · rename_i hk
    rw [hk]
    rfl
  · rfl

/-- Settles O10: but for JMPTASK and JMP, the counters are as the fetch leaves them; JMP writes the slot's own. -/
theorem programCountersMoveOnlyAsRuled : Obligations.ProgramCountersMoveOnlyAsRuled := by
  intro s t h
  obtain ⟨i, s₁, u, hi, hb, hx, rfl⟩ := nextInstr_and_exec_of_step h
  refine ⟨i, hi, fun k => ?_⟩
  have hadv : s₁.advance.pcs[k] = if k = s.currentTask then s.pcs[k] + 1#9 else s.pcs[k] := by
    rw [State.advance_getElem, beginSlot_currentTask hb, beginSlot_pcs hb]
  rw [endSlot_pcs, ← hadv]
  by_cases htask : ∃ a m, i = .jmptask a m
  · exact .inr (.inl htask)
  by_cases hown : k = s.currentTask ∧ ∃ a, i = .jmpA a
  · exact .inr (.inr hown)
  refine .inl (KeptBy.of_exec (P := fun u => u.pcs[k] = s₁.advance.pcs[k])
    { counters := fun a m hi => absurd ⟨a, m, hi⟩ htask, jump := fun a hi u hu hk => ?_ } rfl hx)
  have hne : k ≠ u.currentTask := by
    rw [hu, State.advance_currentTask, beginSlot_currentTask hb]
    exact fun hk => hown ⟨hk, a, hi⟩
  rw [State.setPc_getElem, if_neg hne, hk]

theorem endSlot_task_of_not_isSettask {i : Instr} (hi : isSettask i = false) (s : State) :
    (endSlot i s).task = s.task.rotateRight 2 := by
  simp [endSlot, hi]

/-- Settles O11: no update but SETTASK's reaches TASK before the end of the slot rotates it. -/
theorem taskRotatesUnlessSettask : Obligations.TaskRotatesUnlessSettask := by
  intro s t h
  obtain ⟨i, s₁, u, hi, hb, hx, rfl⟩ := nextInstr_and_exec_of_step h
  refine ⟨i, hi, fun hset => ?_⟩
  rw [endSlot_task_of_not_isSettask hset, exec_task hset hx, beginSlot_eq_of_next hb]
  rfl

/-- Bit j of the rotation comes from r places above, around the width. -/
theorem getElem_rotateRight_mod (x : BitVec 32) (r j : Nat) (hj : j < 32) :
    (x.rotateRight r)[j] = x[(j + r) % 32]'(Nat.mod_lt _ (by decide)) := by
  rw [BitVec.getElem_rotateRight]
  split
  · congr 1
    omega
  · congr 1
    omega

theorem rotateRight_rotateRight (x : BitVec 32) (m n : Nat) :
    (x.rotateRight m).rotateRight n = x.rotateRight ((m + n) % 32) := by
  ext j hj
  simp only [getElem_rotateRight_mod]
  congr 1
  omega

theorem run_succ_eq_next {k : Nat} {s t : State} : Host.Core.run Sys2Proof.core (k + 1) s = .next t ↔
    ∃ u, step s = .next u ∧ Host.Core.run Sys2Proof.core k u = .next t := by
  have hstep : Sys2Proof.core.step s = step s := rfl
  cases hs : step s <;> simp [Host.Core.run, hstep, hs]

/-- Settles O12: each step rotates TASK by one field, and rotations add up modulo the width. -/
theorem taskAfterStepsIsRotation : Obligations.TaskAfterStepsIsRotation := by
  intro k
  induction k with
  | zero =>
    intro s t _ h
    cases h
    simp [BitVec.rotateRight_def]
  | succ k ih =>
    intro s t hno h
    obtain ⟨hfirst, hrest⟩ := hno
    obtain ⟨u, hu, hrun⟩ := run_succ_eq_next.1 h
    obtain ⟨i, hi, htask⟩ := taskRotatesUnlessSettask s u hu
    rw [ih u t (hrest u hu) hrun, htask (hfirst i hi), rotateRight_rotateRight]
    congr 1
    omega

/-- Settles O15: a fill sets the counters, and no other update reaches them after the slot has begun. -/
theorem readinessCountersFollowTheRule : Obligations.ReadinessCountersFollowTheRule := by
  intro s t h
  obtain ⟨i, s₁, u, hi, hb, hx, rfl⟩ := nextInstr_and_exec_of_step h
  refine ⟨i, hi, ?_⟩
  rw [endSlot_qds, endSlot_qex]
  refine KeptBy.of_exec (P := fun u => (u.qds = s.qds - 1 ∧ u.qex = s.qex - 1) ∨
      (canFill i = true ∧ u.qds = 3 ∧ u.qex = 5))
    { fill := fun hf u a q cv w _ _ _ => .inr ⟨hf, rfl, rfl⟩ } (.inl ?_) hx
  rw [beginSlot_eq_of_next hb]
  exact ⟨rfl, rfl⟩

end Sys2Proof.Machine

namespace Sys2Proof.Machine

/-! ## The condition -/

@[simp] theorem State.holds_always (s : State) : s.holds 15#4 = true := rfl

/-- Under a condition the effect is the effect under %1111, or nothing (R104, D15). -/
theorem whenHolds_eq_ite (c : Cond) (s : State) (effect : State → Result State) :
    whenHolds c s effect = if s.holds c = true then whenHolds 15#4 s effect else .next s := rfl

/-- The default table holds COND itself in its nibbles (R104). -/
theorem condHolds_default {p : Params} (hp : p.condTable = Params.default.condTable) (c : Cond)
    (cf zf : Bool) :
    condHolds p c cf zf = c.getLsbD (2 * cf.toNat + zf.toNat) := by
  have htable : ∀ (c : BitVec 4) (cf zf : Bool),
      (c == 0b1111#4 || Params.default.condTable.getLsbD (4 * c.toNat + 2 * cf.toNat + zf.toNat)) =
        c.getLsbD (2 * cf.toNat + zf.toNat) := by decide
  rw [condHolds, hp]
  exact htable c cf zf

/-- Settles O28: every instruction with a condition is an effect under that condition. -/
theorem conditionDecidesExecution : Obligations.ConditionDecidesExecution := by
  refine ⟨fun i c s hc => ?_, State.holds_always, fun s c hp => condHolds_default hp c _ _⟩
  cases i <;> cases hc
  case cachex => exact whenHolds_eq_ite _ s fun s₀ => .next s₀.invalidate
  all_goals exact whenHolds_eq_ite _ s _

/-! ## Cog start -/

theorem quadsMapped_launch {l : Launch} (hl : l.wf = true) : (State.launch l).quadsMapped = false := by
  simp only [Launch.wf, Bool.and_eq_true, bne_iff_ne] at hl
  obtain ⟨⟨⟨hq, -⟩, -⟩, -⟩ := hl
  exact beq_false_of_ne hq

theorem overlaid_of_hidden {s : State} (h : s.quadsMapped = false) (a : CogAddr) : s.overlaid a = false := by
  rw [State.overlaid, h, Bool.false_and]

theorem quadsMapped_of_overlaid {s : State} {a : CogAddr} (h : s.overlaid a = true) :
    s.quadsMapped = true := by
  rw [State.overlaid, Bool.and_eq_true] at h
  exact h.1

theorem codeAddr_toNat (l : Launch) : l.codeAddr.toNat = 4 * l.codeLong.toNat := by
  rw [Launch.codeAddr, BitVec.toNat_append]
  simp
  omega

/-- The hub long a register is loaded from (R32), modulo 2^17. -/
theorem unitBase_codeAddr (l : Launch) (n : Nat) : unitBase 4 (l.codeAddr + BitVec.ofNat 17 (4 * n)) =
    (4 * l.codeLong.toNat + 4 * n) % 2 ^ 17 := by
  simp only [unitBase, BitVec.toNat_add, BitVec.toNat_ofNat, codeAddr_toNat]
  omega

theorem Launch.register_of_loaded {l : Launch} {i : Fin 512} {v : Long} (hi : i.val < l.loadLongs)
    (ht : l.termAt (BitVec.ofFin i) = none)
    (hv : l.hubAtLoad.longAt ((4 * l.codeLong.toNat + 4 * i.val) % 2 ^ 17) = some v) :
    l.register i = .long v := by
  simp only [Launch.register, ht, hi, if_true, unitBase_codeAddr, hv]

/-- Settles O16: the values a launch gives, and a register below LoadLongs holds its long of the image. -/
theorem cogStartValues : Obligations.CogStartValues := by
  intro l hl
  have hhidden := quadsMapped_launch hl
  refine ⟨rfl, rfl, rfl, rfl, codeAddr_toNat l, hhidden, rfl, rfl, rfl, fun a v ha ht hv => ?_⟩
  have hreg : (State.launch l).word a = .long v := by
    rw [word_of_not_overlaid (overlaid_of_hidden hhidden a)]
    exact (Vector.getElem_ofFn a.isLt).trans (Launch.register_of_loaded (i := a.toFin) ha ht hv)
  rw [State.x, hreg]
  rfl

theorem reset_eq_launch : State.reset = State.launch Launch.ofReset := by
  have hregs : Vector.replicate 512 (.long 0xFFFFFFFF#32) = Vector.ofFn Launch.ofReset.register := by
    ext i hi
    simp [Launch.register, Launch.termAt, Launch.ofReset]
  rw [State.launch, ← hregs]
  rfl

/-- Settles O17: the launch with nothing loaded. -/
theorem resetIsACogStart : Obligations.ResetIsACogStart :=
  ⟨reset_eq_launch, by decide, rfl, rfl, by decide, rfl, rfl⟩

theorem launch_inv {l : Launch} (hl : l.wf = true) : (State.launch l).Inv := by
  simp only [Launch.wf, Bool.and_eq_true, decide_eq_true_eq] at hl
  obtain ⟨⟨⟨-, hhub⟩, -⟩, hout⟩ := hl
  refine ⟨hhub, Nat.zero_le _, Nat.zero_le _, Nat.le_refl _, hout, fun j k h => ?_, fun j k h => ?_⟩
  · cases (Vector.getElem_replicate j.isLt).symm.trans h
  · cases (Vector.getElem_replicate j.isLt).symm.trans h

/-- Settles O18: at the start the counters are 0 and nothing is recorded as written. -/
theorem startMeetsInvariant : Obligations.StartMeetsInvariant :=
  ⟨reset_eq_launch ▸ launch_inv resetIsACogStart.2.1, fun _ hl => launch_inv hl⟩

/-! ## The invariant -/

section
variable {i : Instr} {s t : State}

theorem exec_hub_wf (hs : s.hub.wf = true) (h : exec i s = .next t) : t.hub.wf = true :=
  KeptBy.of_exec (P := fun u => u.hub.wf = true)
    { store := fun _ u n a bs hn hl hr hu =>
        Memory.wf_setBytes _ _ _ hr (hl ▸ unitBase_add_le hn a) hu } hs h

theorem exec_counters_le (hs : s.qds ≤ 3 ∧ s.qex ≤ 5 ∧ s.qds ≤ s.qex) (h : exec i s = .next t) :
    t.qds ≤ 3 ∧ t.qex ≤ 5 ∧ t.qds ≤ t.qex :=
  KeptBy.of_exec (P := fun u => u.qds ≤ 3 ∧ u.qex ≤ 5 ∧ u.qds ≤ u.qex) {} hs h

theorem exec_out_lt (hs : s.out < 2 ^ s.params.npins) (h : exec i s = .next t) : t.out < 2 ^ t.params.npins :=
  KeptBy.of_exec (P := fun u => u.out < 2 ^ u.params.npins)
    { pin := fun _ _ _ hn hu => Nat.xor_lt_two_pow hu (Nat.pow_lt_pow_right (by decide) hn) } hs h

/-- A register write is recorded at its own step. -/
theorem setX_writtenAt {d : CogAddr} {v : Long} {j : Fin 512} {k : Nat}
    (h : (s.setX d v).writtenAt[j] = some k) :
    k = s.steps ∨ s.writtenAt[j] = some k := by
  cases ho : s.overlaid d with
  | false =>
    rw [setX_of_not_overlaid ho, State.setReg_writtenAt, Fin.getElem_fin, Vector.getElem_set] at h
    split at h
    · exact .inl (Option.some.inj h).symm
    · exact .inr h
  | true =>
    rw [setX_of_overlaid ho, State.setQuad_writtenAt] at h
    have hj := (State.blurShadow_writtenAt (quadsMapped_of_overlaid ho) (BitVec.ofFin j)).symm.trans h
    split at hj
    · exact .inl (Option.some.inj hj).symm
    · exact .inr hj

theorem setX_quadWrittenAt {d : CogAddr} {v : Long} {j : Fin 4} {k : Nat}
    (h : (s.setX d v).quadWrittenAt[j] = some k) : k = s.steps ∨ s.quadWrittenAt[j] = some k := by
  cases ho : s.overlaid d with
  | false =>
    rw [setX_of_not_overlaid ho] at h
    exact .inr h
  | true =>
    rw [setX_of_overlaid ho, State.setQuad_quadWrittenAt, Fin.getElem_fin, Vector.getElem_set] at h
    split at h
    · exact .inl (Option.some.inj h).symm
    · exact .inr h

theorem exec_written_le (hs : ∀ (j : Fin 512) (k : Nat), s.writtenAt[j] = some k → k ≤ s.steps)
    (h : exec i s = .next t) : ∀ (j : Fin 512) (k : Nat), t.writtenAt[j] = some k → k ≤ t.steps := by
  refine KeptBy.of_exec (P := fun u => ∀ (j : Fin 512) (k : Nat), u.writtenAt[j] = some k → k ≤ u.steps)
    { reg := fun u d v _ hu j k hk => ?_ } hs h
  rw [State.setX_steps]
  exact (setX_writtenAt hk).elim Nat.le_of_eq (hu j k)

theorem exec_quad_written_le (hs : ∀ (j : Fin 4) (k : Nat), s.quadWrittenAt[j] = some k → k ≤ s.steps)
    (h : exec i s = .next t) : ∀ (j : Fin 4) (k : Nat), t.quadWrittenAt[j] = some k → k ≤ t.steps := by
  refine KeptBy.of_exec (P := fun u => ∀ (j : Fin 4) (k : Nat), u.quadWrittenAt[j] = some k → k ≤ u.steps)
    { reg := fun u d v _ hu j k hk => ?_ } hs h
  rw [State.setX_steps]
  exact (setX_quadWrittenAt hk).elim Nat.le_of_eq (hu j k)

theorem State.Inv.beginSlot {s s₁ : State} (hs : s.Inv) (h : beginSlot s = .next s₁) : s₁.Inv := by
  have hwf := wf_beginSlot h hs.hub_wf
  obtain ⟨m, -, rfl⟩ := beginSlot_eq_next.1 h
  obtain ⟨-, hqds, hqex, hle, hout, hwritten, hquad⟩ := hs
  exact ⟨hwf, Nat.le_trans (Nat.sub_le _ _) hqds, Nat.le_trans (Nat.sub_le _ _) hqex,
    Nat.sub_le_sub_right hle 1, hout,
    fun j k hk => Nat.le_succ_of_le (hwritten j k hk), fun j k hk => Nat.le_succ_of_le (hquad j k hk)⟩

theorem State.Inv.exec (hs : s.Inv) (h : exec i s = .next t) : t.Inv := by
  obtain ⟨hhub, hqds, hqex, hle, hout, hwritten, hquad⟩ := hs
  obtain ⟨hqds', hqex', hle'⟩ := exec_counters_le ⟨hqds, hqex, hle⟩ h
  exact ⟨exec_hub_wf hhub h, hqds', hqex', hle', exec_out_lt hout h, exec_written_le hwritten h,
    exec_quad_written_le hquad h⟩

/-- The end of a slot moves TASK only. -/
theorem State.Inv.endSlot (hs : s.Inv) : (endSlot i s).Inv := by
  unfold Machine.endSlot
  split <;> exact ⟨hs.hub_wf, hs.qds_le, hs.qex_le, hs.qds_le_qex, hs.out_lt, hs.written_le,
    hs.quad_written_le⟩

end

/-- Settles O19: the slot's begin, the instruction and the slot's end each keep the invariant. -/
theorem stepKeepsInvariant : Obligations.StepKeepsInvariant := by
  intro s t hs h
  obtain ⟨i, s₁, u, -, hb, hx, rfl⟩ := nextInstr_and_exec_of_step h
  obtain ⟨hhub, hqds, hqex, hle, hout, hwritten, hquad⟩ := hs.beginSlot hb
  have hadv : s₁.advance.Inv := ⟨hhub, hqds, hqex, hle, hout, hwritten, hquad⟩
  exact (hadv.exec hx).endSlot

/-! ## The cached window -/

/-- The address of the quad a window is the tag of. -/
theorem windowOf_toNat_mul (a : HubAddr) : (windowOf a).toNat * 16 = unitBase 16 a := by
  rw [windowOf, BitVec.extractLsb'_toNat, Nat.shiftRight_eq_div_pow, unitBase_eq]
  have := a.isLt
  omega

/-- A quad read is a read of the window of its address. -/
theorem Memory.readQuad_eq_quadAt_window (m : Memory) (a : HubAddr) :
    m.readQuad a = m.quadAt ((windowOf a).toNat * 16) :=
  congrArg m.quadAt (windowOf_toNat_mul a).symm

/-- A store of an aligned unit outside a window leaves the window's quad. -/
theorem Memory.quadAt_setBytes_of_window_ne {m : Memory} {n : Nat} {a : HubAddr} {w : WindowTag}
    {bs : List Byte}
    (hn : n = 1 ∨ n = 2 ∨ n = 4 ∨ n = 16) (hl : bs.length = n) (hr : romEnd ≤ unitBase n a)
    (hw : w ≠ windowOf a) :
    (m.setBytes (unitBase n a) bs).quadAt (w.toNat * 16) = m.quadAt (w.toNat * 16) := by
  refine Memory.quadAt_congr fun k hk => ?_
  have hne : w.toNat * 16 ≠ unitBase 16 a := fun h =>
    hw (BitVec.eq_of_toNat_eq (Nat.eq_of_mul_eq_mul_right (by decide) (h.trans (windowOf_toNat_mul a).symm)))
  rw [Memory.byte_setBytes _ _ _ _ hr, if_neg]
  simp only [unitBase] at *
  rcases hn with rfl | rfl | rfl | rfl <;> omega

/-- Another write than a fill keeps a coherent window coherent: the QUADs are hidden, so that no register write
reaches them, and a store into the window is remembered (R70). -/
theorem exec_cacheCoherent {i : Instr} {s t : State} (hs : s.CacheCoherent) (hh : s.quadsMapped = false)
    (h : exec i s = .next t) : t.CacheCoherent := by
  refine KeptBy.of_exec
    (P := fun u => u.cv = true → u.windowWritten = false → u.hub.quadAt (u.ctag.toNat * 16) = some u.quads)
    { store := fun _ u n a bs hn hl hr hu hcv hw => ?_
      fill := fun _ u a q cv w hq hwin _ hcv _ => ?_
      reg := fun u d v hbase hu => ?_ } hs h
  · obtain ⟨hold, hmiss⟩ := Bool.or_eq_false_iff.1 hw
    have hne : u.ctag ≠ windowOf a := fun heq => by
      rw [State.hits, show u.cv = true from hcv, heq] at hmiss
      simp at hmiss
    exact (Memory.quadAt_setBytes_of_window_ne hn hl hr hne).trans (hu hcv hold)
  · rw [State.loadQuads_ctag, hwin hcv]
    exact (u.hub.readQuad_eq_quadAt_window a).symm.trans hq
  · have hhidden : u.quadsMapped = false := by rwa [State.quadsMapped, hbase]
    rw [setX_of_not_overlaid (overlaid_of_hidden hhidden d)]
    exact hu

/-- Settles O20: before the instruction the step moves nothing the window's coherence is about. -/
theorem stepKeepsCacheCoherent : Obligations.StepKeepsCacheCoherent := by
  intro s t hothers hh hs h
  obtain ⟨i, s₁, u, -, hb, hx, rfl⟩ := nextInstr_and_exec_of_step h
  have hadv : s₁.advance.CacheCoherent ∧ s₁.advance.quadsMapped = false := by
    obtain ⟨m, hm, rfl⟩ := beginSlot_eq_next.1 hb
    rw [hothers] at hm
    obtain rfl := Option.some.inj hm
    exact ⟨hs, hh⟩
  have hu := exec_cacheCoherent hadv.1 hadv.2 hx
  rw [State.CacheCoherent] at hu ⊢
  rwa [endSlot_cv, endSlot_windowWritten, endSlot_hub, endSlot_ctag, endSlot_quads]

end Sys2Proof.Machine

namespace Sys2Proof.Machine

/-! ## Registers through the overlay -/

section
variable {s : State}

theorem quadsMapped_iff : s.quadsMapped = true ↔ s.qbase.toNat % 4 = 0 := by
  rw [State.quadsMapped, beq_iff_eq, ← BitVec.toNat_inj, BitVec.extractLsb'_toNat]
  rfl

theorem overlaid_iff {a : CogAddr} :
    s.overlaid a = true ↔ s.qbase.toNat % 4 = 0 ∧ a.toNat / 4 = s.qbase.toNat / 4 := by
  rw [State.overlaid, Bool.and_eq_true, quadsMapped_iff, beq_iff_eq, ← BitVec.toNat_inj,
    BitVec.extractLsb'_toNat, BitVec.extractLsb'_toNat, Nat.shiftRight_eq_div_pow, Nat.shiftRight_eq_div_pow]
  have ha := a.isLt
  have hq := s.qbase.isLt
  omega

/-- Two addresses of the overlay denote different QUADs (R22). -/
theorem quadIndex_ne {a d : CogAddr} (ha : s.overlaid a = true) (hd : s.overlaid d = true) (h : a ≠ d) :
    quadIndex a ≠ quadIndex d := by
  intro hidx
  obtain ⟨-, ha⟩ := overlaid_iff.1 ha
  obtain ⟨-, hd⟩ := overlaid_iff.1 hd
  have hmod : a.toNat % 4 = d.toNat % 4 := congrArg Fin.val hidx
  exact h (BitVec.eq_of_toNat_eq (by omega))

/-- The longs under the overlay are at overlaid addresses (R22). -/
theorem blurShadow_regs_of_not_overlaid {a : CogAddr} (hm : s.quadsMapped = true) (h : s.overlaid a = false) :
    s.blurShadow.regs[a.toNat]'a.isLt = s.regs[a.toNat]'a.isLt := by
  have hbase := quadsMapped_iff.1 hm
  have hout : ¬ a.toNat / 4 = s.qbase.toNat / 4 := fun ho => by
    rw [overlaid_iff.2 ⟨hbase, ho⟩] at h
    cases h
  have hne (j : Nat) (hj : j < 4) : s.qbase.toNat + j ≠ a.toNat := by omega
  show ((((s.regs.setIfInBounds _ _).setIfInBounds _ _).setIfInBounds _ _).setIfInBounds _ _)[a.toNat]'a.isLt = _
  rw [Vector.getElem_setIfInBounds_ne _ (hne 3 (by decide)),
    Vector.getElem_setIfInBounds_ne _ (hne 2 (by decide)),
    Vector.getElem_setIfInBounds_ne _ (hne 1 (by decide)),
    Vector.getElem_setIfInBounds_ne (i := s.qbase.toNat) _ (hne 0 (by decide))]

theorem wroteX_of_not_overlaid {d : CogAddr} (h : s.overlaid d = false) (v : Long) :
    WroteX d v s (s.setX d v) := by
  have hne {a : CogAddr} (ha : a ≠ d) : d.toNat ≠ a.toNat := fun heq => ha (BitVec.eq_of_toNat_eq heq.symm)
  rw [setX_of_not_overlaid h]
  refine ⟨?_, fun a ha => ?_, fun a ha _ => ?_, fun _ => rfl, fun _ => ⟨rfl, rfl⟩, fun ho => ?_⟩
  · rw [word_of_not_overlaid (s := s.setReg d v) h]
    exact Vector.getElem_set_self d.isLt
  · cases hoa : s.overlaid a with
    | true => rw [word_of_overlaid (s := s.setReg d v) hoa, word_of_overlaid hoa, State.setReg_quads]
    | false =>
      rw [word_of_not_overlaid (s := s.setReg d v) hoa, word_of_not_overlaid hoa]
      exact Vector.getElem_set_ne d.isLt a.isLt (hne ha)
  · exact Vector.getElem_set_ne d.isLt a.isLt (hne ha)
  · rw [h] at ho
    cases ho

theorem wroteX_of_overlaid {d : CogAddr} (h : s.overlaid d = true) (v : Long) :
    WroteX d v s (s.setX d v) := by
  have hm := quadsMapped_of_overlaid h
  rw [setX_of_overlaid h]
  refine ⟨?_, fun a ha => ?_, fun a _ ho => ?_, fun ho => ?_, fun ho => ?_,
    fun _ => ⟨State.blurShadow_writtenAt hm, rfl⟩⟩
  · rw [word_of_overlaid (s := s.blurShadow.setQuad (quadIndex d) v) h]
    exact congrArg CogWord.long (Vector.getElem_set_self (quadIndex d).isLt)
  · cases hoa : s.overlaid a with
    | true =>
      rw [word_of_overlaid (s := s.blurShadow.setQuad (quadIndex d) v) hoa, word_of_overlaid hoa]
      exact congrArg CogWord.long (Vector.getElem_set_ne (quadIndex d).isLt (quadIndex a).isLt
        (Fin.val_ne_of_ne (quadIndex_ne hoa h ha).symm))
    | false =>
      rw [word_of_not_overlaid (s := s.blurShadow.setQuad (quadIndex d) v) hoa, word_of_not_overlaid hoa]
      exact blurShadow_regs_of_not_overlaid hm hoa
  · rcases ho with ho | ho
    · rw [h] at ho
      cases ho
    · exact blurShadow_regs_of_not_overlaid hm ho
  all_goals
    rw [h] at ho
    cases ho

end

/-- Settles O30: the write goes to the raw register, or to the QUAD mapped there. -/
theorem registerWriteReachesOneRegister : Obligations.RegisterWriteReachesOneRegister := by
  intro s d v
  cases h : s.overlaid d with
  | false => exact wroteX_of_not_overlaid h v
  | true => exact wroteX_of_overlaid h v

/-! ## Units of hub memory -/

theorem setWidth_eq_iff {n : Nat} (hn : n ≤ 32) (x : BitVec n) (v : Long) :
    x.setWidth 32 = v ↔ x = v.extractLsb' 0 n ∧ v.toNat < 2 ^ n := by
  rw [← BitVec.toNat_inj, ← BitVec.toNat_inj, BitVec.toNat_setWidth_of_le hn, BitVec.extractLsb'_toNat,
    Nat.shiftRight_zero]
  have hx := x.isLt
  constructor
  · intro h
    rw [← h, Nat.mod_eq_of_lt hx]
    exact ⟨rfl, hx⟩
  · rintro ⟨h, hv⟩
    rwa [Nat.mod_eq_of_lt hv] at h

theorem map_setWidth_eq_some {n : Nat} (hn : n ≤ 32) {o : Option (BitVec n)} {v : Long} :
    o.map (fun x => x.setWidth 32) = some v ↔ o = some (v.extractLsb' 0 n) ∧ v.toNat < 2 ^ n := by
  cases o <;> simp [setWidth_eq_iff hn]

theorem extractLsb'_extractLsb'_zero (v : Long) {i n : Nat} (h : i + 8 ≤ n) :
    (v.extractLsb' 0 n).extractLsb' i 8 = v.extractLsb' i 8 := by
  ext j hj
  simp [BitVec.getElem_extractLsb', BitVec.getLsbD_extractLsb']
  omega

theorem forall_lt_one {p : Nat → Prop} : (∀ k, k < 1 → p k) ↔ p 0 := by
  simp

theorem forall_lt_two {p : Nat → Prop} : (∀ k, k < 2 → p k) ↔ p 0 ∧ p 1 := by
  rw [Nat.forall_lt_succ_right, forall_lt_one]

theorem forall_lt_four {p : Nat → Prop} : (∀ k, k < 4 → p k) ↔ p 0 ∧ p 1 ∧ p 2 ∧ p 3 := by
  rw [Nat.forall_lt_succ_right, Nat.forall_lt_succ_right, forall_lt_two, and_assoc, and_assoc]

/-- Settles O32: each width reads the bytes it is made of, lowest first. -/
theorem readIsLittleEndian : Obligations.ReadIsLittleEndian := by
  intro m sz a v
  cases sz with
  | byte =>
    rw [Memory.read, map_setWidth_eq_some (by decide)]
    rw [show DataSize.byte.bytes = 1 from rfl, forall_lt_one]
    rfl
  | word =>
    rw [Memory.read, map_setWidth_eq_some (by decide), Memory.wordAt_eq_some,
      extractLsb'_extractLsb'_zero v (by decide), extractLsb'_extractLsb'_zero v (by decide)]
    rw [show DataSize.word.bytes = 2 from rfl, forall_lt_two]
    rfl
  | long =>
    rw [Memory.read, Memory.longAt_eq_some]
    rw [show DataSize.long.bytes = 4 from rfl, forall_lt_four]
    exact (and_iff_left v.isLt).symm

/-- Byte `j` of long `i` of a quad. -/
theorem quadBytes_getElem? (q : Vector Long 4) (i j : Fin 4) :
    (quadBytes q)[4 * i.val + j.val]? = some (q[i].extractLsb' (8 * j.val) 8) := by
  fin_cases i <;> fin_cases j <;> rfl

/-- The sixteen bytes of a quad in memory are those of its longs. -/
theorem Memory.byte_of_quadAt {m : Memory} {b : Nat} {q : Vector Long 4} (h : m.quadAt b = some q) {j : Nat}
    (hj : j < 16) :
    m.byte (b + j) = (quadBytes q)[j]? := by
  have hlong := Memory.longAt_eq_some.1 (Memory.quadAt_eq_some.1 h ⟨j / 4, by omega⟩)
  have hbyte := quadBytes_getElem? q ⟨j / 4, by omega⟩ ⟨j % 4, by omega⟩
  simp only [Nat.div_add_mod] at hbyte
  rw [hbyte]
  obtain ⟨h0, h1, h2, h3⟩ := hlong
  have hsplit : b + j = b + 4 * (j / 4) + j % 4 := by omega
  rw [hsplit]
  obtain hk | hk | hk | hk : j % 4 = 0 ∨ j % 4 = 1 ∨ j % 4 = 2 ∨ j % 4 = 3 := by omega
  all_goals simp only [hk]; assumption

/-- The long of the QUADs a cached read at an address takes its value from (R175). -/
def State.cacheLong (s : State) (a : HubAddr) : Long :=
  s.quads[(⟨a.toNat / 4 % 4, Nat.mod_lt _ (by decide)⟩ : Fin 4)]

/-- A cached read takes the unit's bytes of that long, from the unit's place in it, zero-extended. -/
theorem fromCache_eq (s : State) (sz : DataSize) (a : HubAddr) : s.fromCache sz a =
    ((s.cacheLong a).extractLsb' (8 * (unitBase sz.bytes a % 4)) (8 * sz.bytes)).setWidth 32 := by
  cases sz with
  | byte =>
    have h : unitBase 1 a % 4 = a.toNat % 4 := by rw [unitBase, Nat.mod_one, Nat.sub_zero]
    simp only [DataSize.bytes, h]
    rfl
  | word =>
    have h : 8 * (unitBase 2 a % 4) = 16 * (a.toNat / 2 % 2) := by simp only [unitBase]; omega
    simp only [DataSize.bytes, h]
    rfl
  | long =>
    have h : unitBase 4 a % 4 = 0 := by simp only [unitBase]; omega
    simp only [DataSize.bytes, h]
    exact (BitVec.extractLsb'_eq_self.trans rfl).symm

theorem extractLsb'_setWidth_extractLsb' (x : Long) {o n k : Nat} (hk : k < n) (hn : n ≤ 4) :
    ((x.extractLsb' o (8 * n)).setWidth 32).extractLsb' (8 * k) 8 = x.extractLsb' (o + 8 * k) 8 := by
  ext j hj
  have h1 : 8 * k + j < 32 := by omega
  have h2 : 8 * k + j < 8 * n := by omega
  simp [BitVec.getElem_extractLsb', h1, h2, Nat.add_assoc]

/-- Settles O42: the unit's bytes in the quad are the bytes of its long from the unit's place on. -/
theorem cacheExtractionTakesTheUnitsBytes : Obligations.CacheExtractionTakesTheUnitsBytes := by
  intro s sz a
  constructor
  · intro k hk
    have hplace : (unitBase sz.bytes a + k) % 16 = 4 * (a.toNat / 4 % 4) + (unitBase sz.bytes a % 4 + k) ∧
        unitBase sz.bytes a % 4 + k < 4 ∧ sz.bytes ≤ 4 := by
      cases sz <;> simp only [DataSize.bytes, unitBase] at * <;> omega
    obtain ⟨hplace, hlt, hsz⟩ := hplace
    rw [hplace, fromCache_eq, extractLsb'_setWidth_extractLsb' _ hk hsz, ← Nat.mul_add]
    exact quadBytes_getElem? s.quads ⟨a.toNat / 4 % 4, Nat.mod_lt _ (by decide)⟩ ⟨_, hlt⟩
  · rw [fromCache_eq, show 256 ^ sz.bytes = 2 ^ (8 * sz.bytes) from (Nat.pow_mul 2 8 _).symm]
    exact Nat.lt_of_le_of_lt (Nat.le_trans (BitVec.toNat_setWidth _ _ ▸ Nat.mod_le _ _) (Nat.le_refl _))
      (BitVec.isLt _)

/-- Where the QUADs hold the quad of an address, the value taken from them is the unit in the hub. -/
theorem read_eq_fromCache {s : State} {m : Memory} {a : HubAddr} (h : m.readQuad a = some s.quads)
    (sz : DataSize) :
    m.read sz a = some (s.fromCache sz a) := by
  obtain ⟨hbytes, hlt⟩ := cacheExtractionTakesTheUnitsBytes s sz a
  refine (readIsLittleEndian m sz a _).2 ⟨fun k hk => ?_, hlt⟩
  have hplace : unitBase sz.bytes a + k = unitBase 16 a + (unitBase sz.bytes a + k) % 16 := by
    cases sz <;> simp only [DataSize.bytes, unitBase] at * <;> omega
  rw [hplace]
  exact (Memory.byte_of_quadAt h (Nat.mod_lt _ (by decide))).trans (hbytes k hk)

/-- Settles O21: a hit in a coherent window means the QUADs hold the quad of the address. -/
theorem coherentHitReturnsTheHubValue : Obligations.CoherentHitReturnsTheHubValue := by
  intro s sz a hc hhit hw
  rw [State.hits, Bool.and_eq_true, beq_iff_eq] at hhit
  obtain ⟨hcv, htag⟩ := hhit
  refine read_eq_fromCache ?_ sz
  rw [Memory.readQuad_eq_quadAt_window, ← htag]
  exact hc hcv hw

/-! ### Stores -/

theorem Memory.byte_setBytes_of_mem {m : Memory} {b k : Nat} {bs : List Byte} (hb : romEnd ≤ b)
    (hk : k < bs.length) :
    (m.setBytes b bs).byte (b + k) = some bs[k] := by
  rw [Memory.byte_setBytes _ _ _ _ hb, if_pos ⟨Nat.le_add_right _ _, Nat.add_lt_add_left hk b⟩,
    Nat.add_sub_cancel_left, List.getElem?_eq_getElem hk]

theorem storedBytes_setBytes {b : Nat} {bs : List Byte} {s t : State} (hb : romEnd ≤ b)
    (ht : t.hub = s.hub.setBytes b bs) : StoredBytes b bs s t := by
  refine ⟨fun k hk => ?_, fun a ha => ?_⟩ <;> rw [ht]
  · exact Memory.byte_setBytes_of_mem hb hk
  · rw [Memory.byte_setBytes _ _ _ _ hb, if_neg (by omega)]

theorem and_0xFF (x : Long) : x &&& 0xFF#32 = (x.extractLsb' 0 8).setWidth 32 := by
  apply BitVec.eq_of_toNat_eq
  rw [BitVec.toNat_and, BitVec.toNat_setWidth_of_le (by decide), BitVec.extractLsb'_toNat]
  exact Nat.and_two_pow_sub_one_eq_mod x.toNat 8

theorem extractLsb'_ushiftRight (v : Long) (i o n : Nat) :
    (v >>> i).extractLsb' o n = v.extractLsb' (i + o) n := by
  ext j hj
  simp [BitVec.getElem_extractLsb', Nat.add_assoc]

/-- Settles O33: each read finds the bytes of the long that stand at its unit. -/
theorem mixedWidthsSeeTheSameBytes : Obligations.MixedWidthsSeeTheSameBytes := by
  intro m h a v ha hw
  obtain ⟨hr, rfl⟩ := Memory.write_eq_some.1 hw
  have hlt := a.isLt
  have hbase : unitBase 4 a = a.toNat := by rw [unitBase, ha, Nat.sub_zero]
  have hone : (a + 1).toNat = a.toNat + 1 := by bv_omega
  have htwo : (a + 2).toNat = a.toNat + 2 := by bv_omega
  have hbyte (k : Nat) (hk : k < 4) : (m.setBytes (unitBase 4 a) (unitBytes .long v)).byte (a.toNat + k) =
      some (v.extractLsb' (8 * k) 8) := by
    rw [← hbase, Memory.byte_setBytes_of_mem hr hk]
    obtain rfl | rfl | rfl | rfl : k = 0 ∨ k = 1 ∨ k = 2 ∨ k = 3 := by omega
    all_goals rfl
  refine ⟨?_, ?_, ?_, ?_⟩
  · refine (readIsLittleEndian _ _ _ _).2 ⟨fun k hk => ?_, v.isLt⟩
    rw [show unitBase DataSize.long.bytes a = a.toNat from hbase]
    exact hbyte k hk
  · rw [Memory.read, show unitBase 1 a = a.toNat + 0 by rw [unitBase, Nat.mod_one]; rfl, hbyte 0 (by decide),
      and_0xFF]
    rfl
  · rw [Memory.read, show unitBase 1 (a + 1) = a.toNat + 1 by rw [unitBase, Nat.mod_one, hone]; rfl,
      hbyte 1 (by decide), and_0xFF, extractLsb'_ushiftRight]
    rfl
  · refine (readIsLittleEndian _ _ _ _).2 ⟨fun k hk => ?_, ?_⟩
    · have hk : k < 2 := hk
      have hplace : unitBase DataSize.word.bytes (a + 2) + k = a.toNat + (2 + k) := by
        rw [unitBase, htwo, DataSize.bytes]
        omega
      rw [hplace, hbyte (2 + k) (by omega), extractLsb'_ushiftRight, Nat.mul_add]
    · rw [BitVec.toNat_ushiftRight, Nat.shiftRight_eq_div_pow]
      have := v.isLt
      exact Nat.div_lt_of_lt_mul this

/-! ## PTR expressions -/

/-- (PTRx + INDEX*SCALE) mod 2^17, over the integers (R161, D16). -/
theorem ptrSum_toNat (e : PtrExpr) (n : Nat) (s : State) :
    ((ptrSum e n s).toNat : Int) = ((s.ptr e.useB).toNat + e.index.toInt * n) % 2 ^ 17 := by
  rw [ptrSum, BitVec.toNat_ofInt, Int.toNat_of_nonneg (Int.emod_nonneg _ (by decide))]
  rfl

theorem ptrAddress_eq_ite (e : PtrExpr) (n : Nat) (s : State) : ptrAddress e n s =
    if e.post = true ∧ (e.update = true ∨ s.params.pIgnoredWithoutU = false) then s.ptr e.useB
    else ptrSum e n s := by
  simp [ptrAddress, usesPointer]

theorem ptrUpdate_ptr (e : PtrExpr) (n : Nat) (s : State) (b : Bool) : (ptrUpdate e n s).ptr b =
    if e.update = true ∧ b = e.useB then ptrSum e n s else s.ptr b := by
  cases hu : e.update <;> simp [ptrUpdate, hu, State.setPtr_ptr]

theorem store_ptr {n : Nat} {a : HubAddr} {bs : List Byte} {s t : State} (h : store n a bs s = .next t)
    (b : Bool) :
    t.ptr b = s.ptr b := by
  obtain ⟨-, rfl⟩ := store_eq_next.1 h
  rfl

theorem result_ptr (s : State) (z : Bool) (src : ZSource) (d : CogAddr) (v : Long) (b : Bool) :
    ((s.setX d v).writeZ z src v).ptr b = s.ptr b := by
  simp [State.ptr]

theorem cacheLookup_ptr {a : HubAddr} {u v : State} (h : cacheLookup a u = .next v) (b : Bool) :
    v.ptr b = u.ptr b :=
  cacheLookup_keeps (fun u => u.ptr b) (fun _ _ _ _ => rfl) h

section
variable {sz : DataSize} {src : ZSource} {z : Bool} {d : CogAddr} {e : PtrExpr} {s t : State}

theorem writeUnit_ptr (h : writeUnit sz d (.ptr e) s = .next t) (b : Bool) :
    t.ptr b = (ptrUpdate e sz.bytes s).ptr b := by
  obtain ⟨-, p, hp, ht⟩ := writeUnit_eq_next.1 h
  cases hp
  exact store_ptr ht b

theorem readUnit_ptr (h : readUnit sz src z d (.ptr e) s = .next t) (b : Bool) :
    t.ptr b = (ptrUpdate e sz.bytes s).ptr b := by
  obtain ⟨-, p, v, hp, -, rfl⟩ := readUnit_eq_next.1 h
  cases hp
  exact result_ptr _ _ _ _ _ b

theorem readCachedUnit_ptr (h : readCachedUnit sz src z d (.ptr e) s = .next t) (b : Bool) :
    t.ptr b = (ptrUpdate e sz.bytes s).ptr b := by
  obtain ⟨p, u, hp, hu, rfl⟩ := readCachedUnit_eq_next.1 h
  cases hp
  exact (result_ptr _ _ _ _ _ b).trans (cacheLookup_ptr hu b)

theorem writeQuad_ptr (h : writeQuad (.ptr e) s = .next t) (b : Bool) :
    t.ptr b = (ptrUpdate e quadScale s).ptr b := by
  obtain ⟨-, p, hp, ht⟩ := writeQuad_eq_next.1 h
  cases hp
  exact store_ptr ht b

theorem readQuads_ptr (h : readQuads (.ptr e) s = .next t) (b : Bool) :
    t.ptr b = (ptrUpdate e quadScale s).ptr b := by
  obtain ⟨p, hp, ht⟩ := readQuads_eq_next.1 h
  cases hp
  obtain ⟨q, -, rfl⟩ := explicitRdquad_eq_next.1 ht
  split <;> rfl

theorem readQuadsCached_ptr (h : readQuadsCached (.ptr e) s = .next t) (b : Bool) :
    t.ptr b = (ptrUpdate e quadScale s).ptr b := by
  obtain ⟨p, hp, ht⟩ := readQuadsCached_eq_next.1 h
  cases hp
  exact cacheLookup_ptr ht b

end

/-- An instruction with a PTR expression leaves the pointers as the expression says (R161). -/
theorem exec_ptrForm {i : Instr} {k : Cond} {e : PtrExpr} {n : Nat} {s t : State}
    (hi : ptrForm i = some (k, e, n))
    (hk : s.holds k = true) (h : exec i s = .next t) (b : Bool) : t.ptr b = (ptrUpdate e n s).ptr b := by
  have heffect {effect : State → Result State} (h : whenHolds k s effect = .next t) : effect s = .next t :=
    (whenHolds_of_holds hk).symm.trans h
  cases i <;> cases hi
  case wrbyteDPtr => exact writeUnit_ptr (heffect h) b
  case wrwordDPtr => exact writeUnit_ptr (heffect h) b
  case wrlongDPtr => exact writeUnit_ptr (heffect h) b
  case rdbyteDPtr => exact readUnit_ptr (heffect h) b
  case rdwordDPtr => exact readUnit_ptr (heffect h) b
  case rdlongDPtr => exact readUnit_ptr (heffect h) b
  case rdbytecDPtr => exact readCachedUnit_ptr (heffect h) b
  case rdwordcDPtr => exact readCachedUnit_ptr (heffect h) b
  case rdlongcDPtr => exact readCachedUnit_ptr (heffect h) b
  case wrquadPtr => exact writeQuad_ptr (heffect h) b
  case rdquadPtr => exact readQuads_ptr (heffect h) b
  case rdquadcPtr => exact readQuadsCached_ptr (heffect h) b

theorem condField_of_ptrForm {i : Instr} {k : Cond} {e : PtrExpr} {n : Nat}
    (hi : ptrForm i = some (k, e, n)) :
    i.condField = some k := by
  cases i <;> cases hi <;> rfl

/-- Settles O31: the address by the bits P and U, and the pointer after the instruction by U. -/
theorem ptrExpressionEvaluates : Obligations.PtrExpressionEvaluates := by
  constructor
  · intro e n s
    rw [ptrAddress_eq_ite]
    split
    · rfl
    · exact ptrSum_toNat e n s
  · intro i k e n s t hi h
    cases hk : s.holds k with
    | false =>
      rw [conditionDecidesExecution.1 i k s (condField_of_ptrForm hi), hk] at h
      obtain rfl : s = t := Host.Outcome.next.inj h
      exact ⟨by simp, rfl⟩
    | true =>
      rw [exec_ptrForm hi hk h, exec_ptrForm hi hk h, ptrUpdate_ptr, ptrUpdate_ptr]
      constructor
      · cases e.update <;> simp [ptrSum_toNat]
      · simp

end Sys2Proof.Machine

namespace Sys2Proof.Machine

/-! ## Bytes, words and longs -/

/-! ### The instructions of one shape -/

section
variable {sz : DataSize} {z : Bool} {k : Cond} {d src : CogAddr} {e : PtrExpr} {s : State}

theorem exec_storeDS : exec (storeDS sz k d src) s = whenHolds k s (writeUnit sz d (.reg src)) := by
  cases sz <;> rfl

theorem exec_storePtr : exec (storePtr sz k d e) s = whenHolds k s (writeUnit sz d (.ptr e)) := by
  cases sz <;> rfl

theorem exec_loadDS : exec (loadDS sz z k d src) s =
    whenHolds k s (readUnit sz (loadSource sz) z d (.reg src)) := by
  cases sz <;> rfl

theorem exec_loadPtr :
    exec (loadPtr sz z k d e) s = whenHolds k s (readUnit sz (loadSource sz) z d (.ptr e)) := by
  cases sz <;> rfl

theorem exec_cachedDS : exec (cachedDS sz z k d src) s =
    whenHolds k s (readCachedUnit sz (cachedSource sz) z d (.reg src)) := by
  cases sz <;> rfl

theorem exec_cachedPtr : exec (cachedPtr sz z k d e) s =
    whenHolds k s (readCachedUnit sz (cachedSource sz) z d (.ptr e)) := by
  cases sz <;> rfl

end

/-! ### The address of an operand -/

theorem hubAddress_reg {a : CogAddr} {s : State} (n : Nat) (h : s.early a = false) :
    hubAddress (.reg a) n s = .next (regAddress a s, s) :=
  hubAddress_reg_eq_next.2 ⟨h, rfl⟩

section
variable {op : HubOperand} {n : Nat} {a : HubAddr} {s u : State}

theorem hubAddress_hub (h : hubAddress op n s = .next (a, u)) : u.hub = s.hub :=
  hubAddress_keeps State.hub State.setPtr_hub h

theorem hubAddress_quads (h : hubAddress op n s = .next (a, u)) : u.quads = s.quads :=
  hubAddress_keeps State.quads State.setPtr_quads h

theorem hubAddress_qds (h : hubAddress op n s = .next (a, u)) : u.qds = s.qds :=
  hubAddress_keeps State.qds State.setPtr_qds h

theorem hubAddress_windowWritten (h : hubAddress op n s = .next (a, u)) : u.windowWritten = s.windowWritten :=
  hubAddress_keeps State.windowWritten State.setPtr_windowWritten h

theorem hubAddress_hits (h : hubAddress op n s = .next (a, u)) : u.hits a = s.hits a :=
  hubAddress_keeps (fun v => v.hits a) (fun v b w => by cases b <;> rfl) h

theorem hubAddress_fromCache (sz : DataSize) (h : hubAddress op n s = .next (a, u)) :
    u.fromCache sz a = s.fromCache sz a := by
  simp only [State.fromCache, hubAddress_quads h]

/-! ### Stores -/

/-- A store at an operand's address that lies in RAM (R65). -/
theorem store_stores {bs : List Byte} (h : hubAddress op n s = .next (a, u)) (hr : romEnd ≤ unitBase n a) :
    ∃ t, store n a bs u = .next t ∧ StoredBytes (unitBase n a) bs s t ∧
      t = { u with hub := t.hub, windowWritten := s.windowWritten || s.hits a } := by
  refine ⟨_, store_eq_next.2 ⟨hr, rfl⟩, storedBytes_setBytes hr (by rw [hubAddress_hub h]), ?_⟩
  rw [hubAddress_windowWritten h, hubAddress_hits h]

variable {sz : DataSize} {k : Cond} {d : CogAddr}

theorem writeUnit_eq_store (hd : s.early d = false) (h : hubAddress op sz.bytes s = .next (a, u)) :
    writeUnit sz d op s = store sz.bytes a (unitBytes sz (s.x d)) u := by
  rw [writeUnit, readX_eq_next.2 ⟨hd, rfl⟩, andThen_next, h, andThen_next]

theorem writeQuad_eq_store (hq : s.qds = 0) (h : hubAddress op quadScale s = .next (a, u)) :
    writeQuad op s = store quadScale a (quadBytes s.quads) u := by
  rw [writeQuad, useQuads_eq_next.2 ⟨hq, rfl⟩, andThen_next, h, andThen_next]

end

/-- Settles O35: D's low bytes go to the unit at the register's address. -/
theorem storeThroughRegister : Obligations.StoreThroughRegister := by
  intro sz k d src s hk hd hsrc hr
  have ha := hubAddress_reg sz.bytes hsrc
  rw [exec_storeDS, whenHolds_of_holds hk, writeUnit_eq_store hd ha]
  exact store_stores ha hr

/-- Settles O36: D's low bytes go to the unit at the expression's address. -/
theorem storeThroughPointer : Obligations.StoreThroughPointer := by
  intro sz k d e s hk hd hr
  rw [exec_storePtr, whenHolds_of_holds hk, writeUnit_eq_store hd hubAddress_ptr]
  exact store_stores hubAddress_ptr hr

/-- Settles O37: every form of store reaches the one operation that refuses ROM. -/
theorem storeToRomIsRefused : Obligations.StoreToRomIsRefused := by
  intro k d src e s hk hd hsrc
  refine ⟨fun sz => ⟨fun hr => ?_, fun hr => ?_⟩, fun hq => ⟨fun hr => ?_, fun hr => ?_⟩⟩
  · rw [exec_storeDS, whenHolds_of_holds hk, writeUnit_eq_store hd (hubAddress_reg _ hsrc), store_rom hr]
  · rw [exec_storePtr, whenHolds_of_holds hk, writeUnit_eq_store hd hubAddress_ptr, store_rom hr]
  · exact (whenHolds_of_holds hk).trans ((writeQuad_eq_store hq (hubAddress_reg _ hd)).trans (store_rom hr))
  · exact (whenHolds_of_holds hk).trans ((writeQuad_eq_store hq hubAddress_ptr).trans (store_rom hr))

/-! ### Results -/

/-- A write of flags leaves a register write as it is. -/
theorem WroteX.of_flags {d : CogAddr} {v : Long} {s t u : State} (h : WroteX d v s t)
    (hu : u = { t with flags := u.flags, draws := u.draws }) : WroteX d v s u := by
  rw [hu]
  exact ⟨h.value, h.others, h.raw, h.quads, h.marks, h.overlayMarks⟩

/-- A result reaches registers, QUADs and flags, their records and the count of draws. -/
theorem result_frame (s : State) (z : Bool) (src : ZSource) (d : CogAddr) (v : Long) :
    (s.setX d v).writeZ z src v = { s with
      regs := ((s.setX d v).writeZ z src v).regs, quads := ((s.setX d v).writeZ z src v).quads
      flags := ((s.setX d v).writeZ z src v).flags, writtenAt := ((s.setX d v).writeZ z src v).writtenAt
      quadWrittenAt := ((s.setX d v).writeZ z src v).quadWrittenAt,
      draws := ((s.setX d v).writeZ z src v).draws } := by
  unfold State.setX
  split <;> cases z <;> rfl

theorem writeZ_frame (s : State) (z : Bool) (src : ZSource) (v : Long) : s.writeZ z src v =
    { s with flags := (s.writeZ z src v).flags, draws := (s.writeZ z src v).draws } := by
  cases z <;> rfl

theorem writeZ_getElem (s : State) (z : Bool) (src : ZSource) (v : Long) (k : TaskId) :
    (s.writeZ z src v).flags[k] =
      if k = s.flagIndex then { s.flags[k] with z := if z then zValue s.params src v else s.flags[k].z }
      else s.flags[k] := by
  cases z
  · exact (ite_self _).symm
  · exact s.setZ_getElem _ k

theorem flagPair_of_flagIndex_eq {s t : State} (h : t.flagIndex = s.flagIndex) :
    t.flagPair = t.flags[s.flagIndex] := by
  simp only [State.flagPair, h]

/-- What the write of a result to D and Z leaves (R162). -/
theorem resultWritten (s : State) (z : Bool) (src : ZSource) (d : CogAddr) (v : Long) :
    ResultWritten z src d v s ((s.setX d v).writeZ z src v) := by
  have hpair : ((s.setX d v).writeZ z src v).flagPair = ((s.setX d v).writeZ z src v).flags[s.flagIndex] :=
    flagPair_of_flagIndex_eq (by rw [State.writeZ_flagIndex, State.setX_flagIndex])
  have hflags (k : TaskId) : ((s.setX d v).writeZ z src v).flags[k] =
      if k = s.flagIndex then { s.flags[k] with z := if z then zValue s.params src v else s.flags[k].z }
      else s.flags[k] := by
    rw [writeZ_getElem, State.setX_flagIndex, State.setX_flags, State.setX_params]
  refine ⟨(registerWriteReachesOneRegister s d v).of_flags (writeZ_frame _ _ _ _), ?_, ?_, fun k hk => ?_, ?_⟩
  · rw [hpair, hflags, if_pos rfl]
    rfl
  · rw [hpair, hflags, if_pos rfl]
    rfl
  · rw [hflags, if_neg hk]
  · exact result_frame s z src d v

/-! ### Loads -/

section
variable {op : HubOperand} {a : HubAddr} {s u : State} {sz : DataSize} {src : ZSource} {z : Bool} {d : CogAddr}

theorem read_eq_none_of_unknownByte (h : s.unknownByte sz.bytes a) : s.hub.read sz a = none := by
  obtain ⟨k, hk, hnone⟩ := h
  exact Memory.read_of_unknown hk hnone

theorem readQuad_eq_none_of_unknownByte (h : s.unknownByte 16 a) : s.hub.readQuad a = none := by
  obtain ⟨k, hk, hnone⟩ := h
  exact Memory.readQuad_of_unknown hk hnone

/-- A load either answers a next state or faults, by whether the unit has a known value (R33). -/
theorem readUnit_eq_andThen (hd : s.early d = false) (h : hubAddress op sz.bytes s = .next (a, u)) :
    readUnit sz src z d op s = andThen (orFault .hubByteUnwritten (s.hub.read sz a)) fun v =>
      .next ((u.setX d v).writeZ z src v) := by
  rw [readUnit, claimX_eq_next.2 ⟨hd, rfl⟩, andThen_next, h, andThen_next, loadUnit, hubAddress_hub h]

theorem readUnit_loads (hd : s.early d = false) (h : hubAddress op sz.bytes s = .next (a, u)) :
    (∀ v, s.hub.read sz a = some v → ∃ t, readUnit sz src z d op s = .next t ∧ ResultWritten z src d v u t) ∧
    (s.unknownByte sz.bytes a → readUnit sz src z d op s = .fault .hubByteUnwritten) := by
  rw [readUnit_eq_andThen hd h]
  refine ⟨fun v hv => ?_, fun hun => ?_⟩
  · rw [hv]
    exact ⟨_, rfl, resultWritten u z src d v⟩
  · rw [read_eq_none_of_unknownByte hun]
    rfl

end

/-- Settles O38: the unit at the register's address goes to D. -/
theorem loadThroughRegister : Obligations.LoadThroughRegister := by
  intro sz z k d src s hk hd hsrc
  rw [exec_loadDS, whenHolds_of_holds hk]
  exact readUnit_loads hd (hubAddress_reg _ hsrc)

/-- Settles O39: the unit at the expression's address goes to D. -/
theorem loadThroughPointer : Obligations.LoadThroughPointer := by
  intro sz z k d e s hk hd
  rw [exec_loadPtr, whenHolds_of_holds hk]
  exact readUnit_loads hd hubAddress_ptr

/-! ### The cached window -/

section
variable {a : HubAddr} {s : State}

theorem cacheLookup_of_hit (hh : s.hits a = true) : cacheLookup a s = cacheHit s := by
  rw [cacheLookup, if_pos hh]

theorem cacheHit_stale (hw : s.windowWritten = true) : cacheHit s = .fault .staleCacheHit := by
  rw [cacheHit, if_pos hw]

theorem cacheHit_early (hw : s.windowWritten = false) (hq : 0 < s.qds) :
    cacheHit s = .fault .quadNotReady := by
  rw [cacheHit, hw, if_neg (by decide), if_pos (Nat.ne_of_gt hq)]

theorem cacheFill_unknown (h : s.unknownByte 16 a) : cacheFill a s = .fault .hubByteUnwritten := by
  rw [cacheFill, loadQuad, readQuad_eq_none_of_unknownByte h]
  rfl

end

/-! ### Cached reads -/

section
variable {op : HubOperand} {a : HubAddr} {s u : State} {sz : DataSize} {src : ZSource} {z : Bool} {d : CogAddr}

theorem readCachedUnit_eq_andThen (h : hubAddress op sz.bytes s = .next (a, u)) :
    readCachedUnit sz src z d op s = andThen (cacheLookup a u) fun t =>
      .next ((t.setX d (t.fromCache sz a)).writeZ z src (t.fromCache sz a)) := by
  rw [readCachedUnit, h, andThen_next]

/-- A cached read that misses (R70, R175). -/
theorem readCachedUnit_miss (h : hubAddress op sz.bytes s = .next (a, u)) (hh : s.hits a = false) :
    (∀ q, s.hub.readQuad a = some q → ∃ t v, readCachedUnit sz src z d op s = .next t ∧
      s.hub.read sz a = some v ∧
      ResultWritten z src d v (u.loadQuads q true (windowOf a)) t) ∧
    (s.unknownByte 16 a → readCachedUnit sz src z d op s = .fault .hubByteUnwritten) := by
  have hmiss : cacheLookup a u = cacheFill a u := cacheLookup_of_hits_eq_false ((hubAddress_hits h).trans hh)
  rw [readCachedUnit_eq_andThen h, hmiss]
  refine ⟨fun q hq => ?_, fun hun => ?_⟩
  · have hfill : cacheFill a u = .next (u.loadQuads q true (windowOf a)) :=
      cacheFill_eq_next.2 ⟨q, (hubAddress_hub h).symm ▸ hq, rfl⟩
    rw [hfill]
    exact ⟨_, _, rfl, read_eq_fromCache (s := u.loadQuads q true (windowOf a)) hq sz,
      resultWritten _ z src d _⟩
  · have hunknown : u.unknownByte 16 a := by rwa [State.unknownByte, hubAddress_hub h]
    rw [cacheFill_unknown hunknown]
    rfl

/-- A cached read that hits (R70, R175, D22). -/
theorem readCachedUnit_hit (h : hubAddress op sz.bytes s = .next (a, u)) (hh : s.hits a = true)
    (hq : s.qds = 0)
    (hw : s.windowWritten = false) :
    ∃ t, readCachedUnit sz src z d op s = .next t ∧ ResultWritten z src d (s.fromCache sz a) u t := by
  have hhit : cacheLookup a u = .next u := cacheLookup_eq_next.2
    (.inl ⟨(hubAddress_hits h).trans hh, (hubAddress_windowWritten h).trans hw, (hubAddress_qds h).trans hq,
      rfl⟩)
  rw [readCachedUnit_eq_andThen h, hhit, andThen_next, hubAddress_fromCache sz h]
  exact ⟨_, rfl, resultWritten u z src d _⟩

/-- A cached lookup of an operand's address that hits and faults. -/
theorem readCachedUnit_fault {f : Fault} (h : hubAddress op sz.bytes s = .next (a, u))
    (hf : cacheLookup a u = .fault f) :
    readCachedUnit sz src z d op s = .fault f := by
  rw [readCachedUnit_eq_andThen h, hf, andThen_fault]

theorem cacheLookup_stale {n : Nat} (h : hubAddress op n s = .next (a, u)) (hh : s.hits a = true)
    (hw : s.windowWritten = true) : cacheLookup a u = .fault .staleCacheHit := by
  rw [cacheLookup_of_hit ((hubAddress_hits h).trans hh),
    cacheHit_stale ((hubAddress_windowWritten h).trans hw)]

theorem cacheLookup_early {n : Nat} (h : hubAddress op n s = .next (a, u)) (hh : s.hits a = true)
    (hw : s.windowWritten = false) (hq : 0 < s.qds) : cacheLookup a u = .fault .quadNotReady := by
  rw [cacheLookup_of_hit ((hubAddress_hits h).trans hh),
    cacheHit_early ((hubAddress_windowWritten h).trans hw) (by rwa [hubAddress_qds h])]

theorem readQuadsCached_eq_cacheLookup (h : hubAddress op quadScale s = .next (a, u)) :
    readQuadsCached op s = cacheLookup a u := by
  rw [readQuadsCached, h, andThen_next]

end

/-- Settles O40: the fill loads the quad of the address, from which the unit is then taken. -/
theorem cachedMissFillsAndReturnsTheHubValue : Obligations.CachedMissFillsAndReturnsTheHubValue := by
  intro sz z k d src e s hk
  refine ⟨fun hsrc hh => ?_, fun hh => ?_⟩
  · rw [exec_cachedDS, whenHolds_of_holds hk]
    exact readCachedUnit_miss (hubAddress_reg _ hsrc) hh
  · rw [exec_cachedPtr, whenHolds_of_holds hk]
    exact readCachedUnit_miss hubAddress_ptr hh

/-- Settles O41: the lookup changes nothing, and the value comes from the QUADs. -/
theorem cachedHitReturnsTheQuads : Obligations.CachedHitReturnsTheQuads := by
  intro sz z k d src e s hk hq hw
  refine ⟨fun hh => ?_, fun hh => ?_⟩
  · rw [exec_cachedDS, whenHolds_of_holds hk]
    exact readCachedUnit_hit (hubAddress_reg _ (early_of_qds_zero src hq)) hh hq hw
  · rw [exec_cachedPtr, whenHolds_of_holds hk]
    exact readCachedUnit_hit hubAddress_ptr hh hq hw

/-- Settles O43: every form looks its address up before it uses the QUADs. -/
theorem staleCacheHitFaults : Obligations.StaleCacheHitFaults := by
  intro z k d src e s hk hw
  refine ⟨fun sz => ⟨fun hsrc hh => ?_, fun hh => ?_⟩, fun hd hh => ?_, fun hh => ?_⟩
  · have ha := hubAddress_reg sz.bytes hsrc
    rw [exec_cachedDS, whenHolds_of_holds hk, readCachedUnit_fault ha (cacheLookup_stale ha hh hw)]
  · rw [exec_cachedPtr, whenHolds_of_holds hk,
      readCachedUnit_fault hubAddress_ptr (cacheLookup_stale hubAddress_ptr hh hw)]
  · have ha := hubAddress_reg quadScale hd
    exact (whenHolds_of_holds hk).trans
      ((readQuadsCached_eq_cacheLookup ha).trans (cacheLookup_stale ha hh hw))
  · exact (whenHolds_of_holds hk).trans
      ((readQuadsCached_eq_cacheLookup hubAddress_ptr).trans (cacheLookup_stale hubAddress_ptr hh hw))

end Sys2Proof.Machine

namespace Sys2Proof.Machine

/-! ## Quads -/

/-- Settles O45: the QUADs go to the quad at the operand's address. -/
theorem wrquadStoresTheQuads : Obligations.WrquadStoresTheQuads := by
  intro k d e s hk hq
  refine ⟨fun hr => ?_, fun hr => ?_⟩
  · have ha := hubAddress_reg quadScale (early_of_qds_zero d hq)
    obtain ⟨t, ht, hstored⟩ := store_stores (bs := quadBytes s.quads) ha hr
    exact ⟨t, (whenHolds_of_holds hk).trans ((writeQuad_eq_store hq ha).trans ht), hstored⟩
  · obtain ⟨t, ht, hstored⟩ := store_stores (bs := quadBytes s.quads)
      (hubAddress_ptr (e := e) (n := quadScale)) hr
    exact ⟨t, (whenHolds_of_holds hk).trans ((writeQuad_eq_store hq hubAddress_ptr).trans ht), hstored⟩

section
variable {op : HubOperand} {a : HubAddr} {s u : State} {q : Vector Long 4}

theorem readQuad_of_longs {m : Memory} (h : ∀ j : Fin 4, m.longAt (unitBase 16 a + 4 * j.val) = some q[j]) :
    m.readQuad a = some q :=
  Memory.quadAt_eq_some.2 h

/-- RDQUAD of a quad whose longs are known (R173, D21). -/
theorem readQuads_known (h : hubAddress op quadScale s = .next (a, u))
    (hq : ∀ j : Fin 4, s.hub.longAt (unitBase 16 a + 4 * j.val) = some q[j]) :
    readQuads op s = .next { u with
      quads := q, cv := s.params.explicitRdquadValidates, windowWritten := false, qds := 3, qex := 5
      ctag := if s.params.explicitRdquadValidates = true then windowOf a else s.ctag
      quadWrittenAt := Vector.replicate 4 none } := by
  have hparams : u.params = s.params := hubAddress_keeps State.params State.setPtr_params h
  have hctag : u.ctag = s.ctag := hubAddress_keeps State.ctag State.setPtr_ctag h
  have hread : u.hub.readQuad a = some q := (hubAddress_hub h).symm ▸ readQuad_of_longs hq
  refine readQuads_eq_next.2 ⟨(a, u), h, explicitRdquad_eq_next.2 ⟨q, hread, ?_⟩⟩
  rw [← hparams, ← hctag]
  cases u.params.explicitRdquadValidates <;> rfl

theorem readQuads_unknown (h : hubAddress op quadScale s = .next (a, u)) (hun : s.unknownByte 16 a) :
    readQuads op s = .fault .hubByteUnwritten := by
  rw [readQuads, h, andThen_next, explicitRdquad, loadQuad, hubAddress_hub h,
    readQuad_eq_none_of_unknownByte hun]
  rfl

/-- RDQUADC that misses (R174). -/
theorem readQuadsCached_miss (h : hubAddress op quadScale s = .next (a, u)) (hh : s.hits a = false) :
    (∀ q : Vector Long 4, (∀ j : Fin 4, s.hub.longAt (unitBase 16 a + 4 * j.val) = some q[j]) →
      readQuadsCached op s = .next (u.loadQuads q true (windowOf a))) ∧
    (s.unknownByte 16 a → readQuadsCached op s = .fault .hubByteUnwritten) := by
  rw [readQuadsCached_eq_cacheLookup h, cacheLookup_of_hits_eq_false ((hubAddress_hits h).trans hh)]
  refine ⟨fun q hq => ?_, fun hun => ?_⟩
  · exact cacheFill_eq_next.2 ⟨q, (hubAddress_hub h).symm ▸ readQuad_of_longs hq, rfl⟩
  · exact cacheFill_unknown (by rwa [State.unknownByte, hubAddress_hub h])

/-- RDQUADC that hits (R174). -/
theorem readQuadsCached_hit (h : hubAddress op quadScale s = .next (a, u)) (hh : s.hits a = true)
    (hq : s.qds = 0)
    (hw : s.windowWritten = false) : readQuadsCached op s = .next u :=
  readQuadsCached_eq_next.2 ⟨(a, u), h, cacheLookup_eq_next.2 (.inl ⟨(hubAddress_hits h).trans hh,
    (hubAddress_windowWritten h).trans hw, (hubAddress_qds h).trans hq, rfl⟩)⟩

end

/-- Settles O46: the QUADs take the quad at the operand's address, or the read of it faults. -/
theorem rdquadLoadsTheQuads : Obligations.RdquadLoadsTheQuads := by
  intro k d e s hk
  refine ⟨fun hd => ⟨fun q hq => ?_, fun hun => ?_⟩, fun q hq => ?_, fun hun => ?_⟩
  · exact (whenHolds_of_holds hk).trans (readQuads_known (hubAddress_reg _ hd) hq)
  · exact (whenHolds_of_holds hk).trans (readQuads_unknown (hubAddress_reg _ hd) hun)
  · exact (whenHolds_of_holds hk).trans (readQuads_known hubAddress_ptr hq)
  · exact (whenHolds_of_holds hk).trans (readQuads_unknown hubAddress_ptr hun)

/-- Settles O47: the lookup alone, by whether the address hits. -/
theorem rdquadcFillsOnlyOnAMiss : Obligations.RdquadcFillsOnlyOnAMiss := by
  intro k d e s hk
  refine ⟨fun hd hh => ?_, fun hh => ?_, fun hq hw => ⟨fun hh => ?_, fun hh => ?_⟩⟩
  · obtain ⟨hknown, hunknown⟩ := readQuadsCached_miss (hubAddress_reg quadScale hd) hh
    exact ⟨fun q hq => (whenHolds_of_holds hk).trans (hknown q hq),
      fun hun => (whenHolds_of_holds hk).trans (hunknown hun)⟩
  · obtain ⟨hknown, hunknown⟩ := readQuadsCached_miss (hubAddress_ptr (e := e) (n := quadScale)) hh
    exact ⟨fun q hq => (whenHolds_of_holds hk).trans (hknown q hq),
      fun hun => (whenHolds_of_holds hk).trans (hunknown hun)⟩
  · exact (whenHolds_of_holds hk).trans
      (readQuadsCached_hit (hubAddress_reg _ (early_of_qds_zero d hq)) hh hq hw)
  · exact (whenHolds_of_holds hk).trans (readQuadsCached_hit hubAddress_ptr hh hq hw)

/-- The four bytes of a long written out from its bytes. -/
theorem extractLsb'_bytes (b : Fin 4 → Byte) (j : Fin 4) :
    (b 3 ++ b 2 ++ b 1 ++ b 0 : Long).extractLsb' (8 * j.val) 8 = b j := by
  obtain ⟨h0, h1, h2, h3⟩ := (long_of_bytes (b 3) (b 2) (b 1) (b 0) _).1 rfl
  match j with
  | 0 => exact h0.symm
  | 1 => exact h1.symm
  | 2 => exact h2.symm
  | 3 => exact h3.symm

/-- Settles O49: the value is written out from the top bytes in the order of its bytes. -/
theorem gettopsPacksTheTopBytes : Obligations.GettopsPacksTheTopBytes := by
  intro z k d s hk hq
  refine ⟨_, s.tops, (whenHolds_of_holds hk).trans (getTops_eq_next.2 ⟨hq, rfl⟩), resultWritten s z _ d _,
    fun j => ?_⟩
  rw [State.tops]
  cases s.params.topsOrder with
  | quadOrder => exact extractLsb'_bytes (fun j => s.quads[j].extractLsb' 24 8) j
  | reversed => exact extractLsb'_bytes (fun j => s.quads[j.rev].extractLsb' 24 8) j

/-- Address QBASE + j denotes Q[j] (R22). -/
theorem x_of_mapped {s : State} (hm : s.qbase.toNat % 4 = 0) (j : Fin 4) :
    s.x (s.qbase + BitVec.ofNat 9 j.val) = s.quads[j] := by
  have hsum : (s.qbase + BitVec.ofNat 9 j.val).toNat = s.qbase.toNat + j.val := by
    have hq := s.qbase.isLt
    rw [BitVec.toNat_add, BitVec.toNat_ofNat]
    omega
  have hover : s.overlaid (s.qbase + BitVec.ofNat 9 j.val) = true :=
    overlaid_iff.2 ⟨hm, by omega⟩
  have hidx : quadIndex (s.qbase + BitVec.ofNat 9 j.val) = j := by
    apply Fin.ext
    show (s.qbase + BitVec.ofNat 9 j.val).toNat % 4 = j.val
    omega
  rw [State.x, word_of_overlaid hover]
  exact congrArg (fun i : Fin 4 => s.quads[i]) hidx

theorem not_overlaid_of_not_mapped {s : State} (hm : s.qbase.toNat % 4 ≠ 0) (a : CogAddr) :
    s.overlaid a = false :=
  Bool.eq_false_of_not_eq_true fun h => hm (overlaid_iff.1 h).1

/-- Settles O50: bits 8..0 of the operand go to QBASE, whose low bits say whether the QUADs are mapped. -/
theorem setquadMapsOrHides : Obligations.SetquadMapsOrHides := by
  intro k d n s hk
  refine ⟨fun hd => ?_, ?_, quadsMapped_iff, fun hm => x_of_mapped (s := s.setQbase n) hm,
    fun hm a => word_of_not_overlaid (s := s.setQbase n) (not_overlaid_of_not_mapped hm a)⟩
  · rw [← BitVec.setWidth_eq_extractLsb' (by decide : 9 ≤ 32)]
    exact (whenHolds_of_holds hk).trans
      (setQuadBase_eq_next.2 ⟨_, operandValue_reg_eq_next.2 ⟨hd, rfl⟩, rfl⟩)
  · refine (whenHolds_of_holds hk).trans (setQuadBase_eq_next.2 ⟨_, operandValue_lit, ?_⟩)
    rw [BitVec.setWidth_setWidth_of_le _ (by decide), BitVec.setWidth_eq]
    rfl

/-! ## Pointers -/

/-- The flags after GETPTRx: Z by ZRule where Zb is 1, a free bit in C where Cb is 1, in the slot's own pair. -/
theorem pointerRead_flags (s : State) (src : ZSource) (z c r : Bool) (d : CogAddr) (v : Long) {t : State}
    (ht : ((s.writeD r d v).writeZ z src v).drawC c = t) :
    t.flagPair.z = (if z = true then zValue s.params src v else s.flagPair.z) ∧
    (c = false → t.flagPair.c = s.flagPair.c) ∧ ∀ j : TaskId, j ≠ s.flagIndex → t.flags[j] = s.flags[j] := by
  have hZ (j : TaskId) : ((s.writeD r d v).writeZ z src v).flags[j] =
      if j = s.flagIndex then { s.flags[j] with z := if z then zValue s.params src v else s.flags[j].z }
      else s.flags[j] := by
    rw [writeZ_getElem, State.writeD_flagIndex, State.writeD_flags, State.writeD_params]
  have hidx : ((s.writeD r d v).writeZ z src v).flagIndex = s.flagIndex := by simp
  subst ht
  cases c with
  | false =>
    have hpair := (flagPair_of_flagIndex_eq hidx).trans ((hZ _).trans (if_pos rfl))
    have hc : ((s.writeD r d v).writeZ z src v).flagPair.c = s.flagPair.c := by
      rw [hpair]
      rfl
    exact ⟨congrArg FlagPair.z hpair, fun _ => hc, fun j hj => (hZ j).trans (if_neg hj)⟩
  | true =>
    have hC (j : TaskId) := ((s.writeD r d v).writeZ z src v).drawC_true_getElem j
    simp only [hidx, hZ] at hC
    have hpair :=
      (flagPair_of_flagIndex_eq (s := s) (t := ((s.writeD r d v).writeZ z src v).drawC true) hidx).trans
      ((hC _).trans (if_pos rfl))
    refine ⟨?_, nofun, fun j hj => ?_⟩
    · rw [hpair, if_pos rfl]
      rfl
    · rw [hC, if_neg hj, if_neg hj]

/-- GETPTRx reaches registers, QUADs and flags, their records and the count of draws. -/
theorem pointerRead_frame (s : State) (z c : Bool) (src : ZSource) (d : CogAddr) (v : Long) {t : State}
    (ht : ((s.setX d v).writeZ z src v).drawC c = t) : t = { s with
      regs := t.regs, quads := t.quads, flags := t.flags
      writtenAt := t.writtenAt, quadWrittenAt := t.quadWrittenAt, draws := t.draws } := by
  subst ht
  unfold State.setX
  split <;> cases z <;> cases c <;> rfl

theorem drawC_frame (s : State) (c : Bool) : s.drawC c =
    { s with flags := (s.drawC c).flags, draws := (s.drawC c).draws } := by
  cases c <;> rfl

theorem getPtr_writes {b : Bool} {src : ZSource} {z c : Bool} {d : CogAddr} {s : State}
    (hd : s.early d = false) :
    ∃ t, getPtr b src z c true d s = .next t ∧ WroteX d (BitVec.ofNat 32 (s.ptr b).toNat) s t ∧
      t.flagPair.z =
        (if z = true then zValue s.params src (BitVec.ofNat 32 (s.ptr b).toNat) else s.flagPair.z) ∧
      (c = false → t.flagPair.c = s.flagPair.c) ∧
      (∀ j : TaskId, j ≠ s.flagIndex → t.flags[j] = s.flags[j]) ∧
      t = { s with
        regs := t.regs, quads := t.quads, flags := t.flags
        writtenAt := t.writtenAt, quadWrittenAt := t.quadWrittenAt, draws := t.draws } := by
  rw [BitVec.ofNat_toNat]
  obtain ⟨hz, hc, hpairs⟩ := pointerRead_flags s src z c true d ((s.ptr b).setWidth 32) rfl
  refine ⟨_, getPtr_eq_next.2 ⟨fun _ => hd, rfl⟩, ?_, hz, hc, hpairs, pointerRead_frame s z c src d _ rfl⟩
  have hX := registerWriteReachesOneRegister s d ((s.ptr b).setWidth 32)
  exact (hX.of_flags (writeZ_frame _ z src _)).of_flags (drawC_frame _ c)

theorem getPtr_leaves {b : Bool} {src : ZSource} {z c : Bool} {d : CogAddr} {s : State} :
    ∃ t, getPtr b src z c false d s = .next t ∧
      t.flagPair.z =
        (if z = true then zValue s.params src (BitVec.ofNat 32 (s.ptr b).toNat) else s.flagPair.z) ∧
      (c = false → t.flagPair.c = s.flagPair.c) ∧
      (∀ j : TaskId, j ≠ s.flagIndex → t.flags[j] = s.flags[j]) ∧
      t = { s with flags := t.flags, draws := t.draws } := by
  rw [BitVec.ofNat_toNat]
  obtain ⟨hz, hc, hpairs⟩ := pointerRead_flags s src z c false d ((s.ptr b).setWidth 32) rfl
  refine ⟨_, getPtr_eq_next.2 ⟨nofun, rfl⟩, hz, hc, hpairs, ?_⟩
  cases z <;> cases c <;> rfl

/-- Settles O51: D takes the pointer, the flags follow it. -/
theorem getptrReadsThePointer : Obligations.GetptrReadsThePointer := by
  intro z c k d s hk hd
  refine ⟨?_, ?_⟩
  · obtain ⟨t, ht, hrest⟩ := getPtr_writes (b := false) (src := .getptra) (z := z) (c := c) hd
    exact ⟨t, (whenHolds_of_holds hk).trans ht, hrest⟩
  · obtain ⟨t, ht, hrest⟩ := getPtr_writes (b := true) (src := .getptrb) (z := z) (c := c) hd
    exact ⟨t, (whenHolds_of_holds hk).trans ht, hrest⟩

/-- Settles O52: without a result only the flags follow the pointer. -/
theorem getptrWithoutResultLeavesD : Obligations.GetptrWithoutResultLeavesD := by
  intro z c k d s hk
  refine ⟨?_, ?_⟩
  · obtain ⟨t, ht, hrest⟩ := getPtr_leaves (b := false) (src := .getptra) (z := z) (c := c) (d := d) (s := s)
    exact ⟨t, (whenHolds_of_holds hk).trans ht, hrest⟩
  · obtain ⟨t, ht, hrest⟩ := getPtr_leaves (b := true) (src := .getptrb) (z := z) (c := c) (d := d) (s := s)
    exact ⟨t, (whenHolds_of_holds hk).trans ht, hrest⟩

/-! ## Tasks and pins -/

/-- The low 8 bits of n, four times over (R141). -/
theorem replicateFour_getLsbD (n : Long) {j : Nat} (hj : j < 32) :
    (replicateFour n).getLsbD j = n.getLsbD (j % 8) := by
  simp only [replicateFour, BitVec.getLsbD_append, BitVec.getLsbD_extractLsb', Nat.zero_add]
  split_ifs
  all_goals
    rw [decide_eq_true (by omega), Bool.true_and]
    congr 1
    omega

theorem exec_settaskN (n : Long) (s : State) :
    exec (.settaskN n) s = .next (s.setTask (replicateFour n)) := rfl

/-- Settles O56: the instruction loads the replicated bits, and the end of the slot rotates them. -/
theorem settaskImmediateReplicates : Obligations.SettaskImmediateReplicates := by
  intro n s t
  refine ⟨replicateFour n, fun j hj => replicateFour_getLsbD n hj, rfl, fun hi h => ?_⟩
  obtain ⟨s₁, u, hb, hx, rfl⟩ := exec_of_step hi h
  rw [exec_settaskN] at hx
  obtain rfl := Host.Outcome.next.inj hx
  rw [endSlot_task_of_isSettask rfl, State.setTask_params, State.advance_params, beginSlot_params hb]
  rfl

theorem taskOperandValue_of_ready {op : TaskOperand} {s : State} (h : taskOperandReady op s = true) :
    taskOperandValue op s = .next (taskOperandBits op s) := by
  cases op with
  | lit v => rfl
  | reg a => exact taskOperandValue_reg_eq_next.2 ⟨by simpa [taskOperandReady] using h, rfl⟩

theorem maskedPcs_getElem (pcs : Vector CogAddr 4) (m : BitVec 4) (a : CogAddr) (j : TaskId) :
    (maskedPcs pcs m a)[j] = if m.getLsbD j.val = true then a else pcs[j] := by
  match j with
  | 0 => rfl
  | 1 => rfl
  | 2 => rfl
  | 3 => rfl

theorem exec_jmptask {a m : TaskOperand} {s : State} (ha : taskOperandReady a s = true)
    (hm : taskOperandReady m s = true) :
    exec (.jmptask a m) s = .next { s with
      pcs := maskedPcs s.pcs ((taskOperandBits m s).setWidth 4) ((taskOperandBits a s).setWidth 9) } := by
  rw [exec, execJmptask, taskOperandValue_of_ready ha, andThen_next, taskOperandValue_of_ready hm,
    andThen_next]

/-- The counters after JMPTASK (R143). -/
theorem jmptask_getElem (pcs : Vector CogAddr 4) (va vm : Long) (j : TaskId) :
    (maskedPcs pcs (vm.setWidth 4) (va.setWidth 9))[j] =
      if vm.getLsbD j.val = true then va.extractLsb' 0 9 else pcs[j] := by
  have hbit : (vm.setWidth 4).getLsbD j.val = vm.getLsbD j.val := by
    rw [BitVec.getLsbD_setWidth, decide_eq_true j.isLt, Bool.true_and]
  rw [maskedPcs_getElem, hbit, BitVec.setWidth_eq_extractLsb' (by decide)]

/-- Settles O58: the masked counters take the address, in a step after the fetch has moved its own. -/
theorem jmptaskSetsTheMaskedCounters : Obligations.JmptaskSetsTheMaskedCounters := by
  refine ⟨fun a m s ha hm => ⟨_, exec_jmptask ha hm, fun j => jmptask_getElem _ _ _ j, rfl⟩,
    fun a m s t hi h j => ?_⟩
  obtain ⟨s₁, u, hb, hx, rfl⟩ := exec_of_step hi h
  rw [exec_jmptask rfl rfl] at hx
  obtain rfl := Host.Outcome.next.inj hx
  rw [endSlot_pcs]
  refine (jmptask_getElem _ _ _ j).trans ?_
  rw [State.advance_getElem, beginSlot_currentTask hb, beginSlot_pcs hb]
  rfl

/-- Settles O60: the pin's bit is complemented, or the pin is refused. -/
theorem notpTogglesOnePin : Obligations.NotpTogglesOnePin := by
  intro n s
  refine ⟨fun hn => ⟨s.togglePin n.toNat, if_pos hn, fun j => ?_, rfl⟩, fun hn => if_neg (Nat.not_lt.2 hn)⟩
  rw [State.togglePin_out, Nat.testBit_xor, Nat.testBit_two_pow]
  by_cases hj : j = n.toNat
  · simp [hj]
  · simp [hj, Ne.symm hj]

end Sys2Proof.Machine

namespace Sys2Proof.Machine

/-! ## QUADs in their delay -/

/-- The operand's address comes from a register that is a QUAD in its delay (R266). -/
def HubOperand.early (op : HubOperand) (s : State) : Bool :=
  match op with
  | .reg a => s.early a
  | .ptr _ => false

section
variable {s : State} {a d : CogAddr} {op : HubOperand} {n : Nat}

theorem early_of_overlaid (hq : 0 < s.qds) (ho : s.overlaid a = true) : s.early a = true := by
  rw [State.early, ho, Bool.true_and]
  exact decide_eq_true (Nat.ne_of_gt hq)

theorem readX_early (h : s.early a = true) : readX a s = .fault .quadNotReady := if_pos h

theorem claimX_early (h : s.early a = true) : claimX a s = .fault .quadNotReady := if_pos h

theorem useQuads_early (hq : 0 < s.qds) : useQuads s = .fault .quadNotReady := if_pos (Nat.ne_of_gt hq)

theorem andThen_of_fault {α β : Type} {o : Result α} {g : α → Result β} {f : Fault} (h : o = .fault f) :
    andThen o g = .fault f := by
  rw [h, andThen_fault]

theorem hubAddress_early (h : op.early s = true) : hubAddress op n s = .fault .quadNotReady := by
  cases op with
  | reg a => exact andThen_of_fault (readX_early h)
  | ptr e => cases h

theorem whenHolds_fault {k : Cond} {effect : State → Result State} {f : Fault} (hk : s.holds k = true)
    (h : effect s = .fault f) : whenHolds k s effect = .fault f :=
  (whenHolds_of_holds hk).trans h

theorem writeUnit_early {sz : DataSize} (h : s.early d = true ∨ op.early s = true) :
    writeUnit sz d op s = .fault .quadNotReady := by
  cases hd : s.early d with
  | true => exact andThen_of_fault (readX_early hd)
  | false =>
    rw [hd] at h
    rw [writeUnit, readX_eq_next.2 ⟨hd, rfl⟩, andThen_next]
    exact andThen_of_fault (hubAddress_early (h.resolve_left nofun))

theorem readUnit_early {sz : DataSize} {src : ZSource} {z : Bool} (h : s.early d = true ∨ op.early s = true) :
    readUnit sz src z d op s = .fault .quadNotReady := by
  cases hd : s.early d with
  | true => exact andThen_of_fault (claimX_early hd)
  | false =>
    rw [hd] at h
    rw [readUnit, claimX_eq_next.2 ⟨hd, rfl⟩, andThen_next]
    exact andThen_of_fault (hubAddress_early (h.resolve_left nofun))

theorem readCachedUnit_early {sz : DataSize} {src : ZSource} {z : Bool} (h : op.early s = true) :
    readCachedUnit sz src z d op s = .fault .quadNotReady :=
  andThen_of_fault (hubAddress_early h)

theorem writeQuad_early (hq : 0 < s.qds) : writeQuad op s = .fault .quadNotReady :=
  andThen_of_fault (useQuads_early hq)

theorem readQuads_early (h : op.early s = true) : readQuads op s = .fault .quadNotReady :=
  andThen_of_fault (hubAddress_early h)

theorem readQuadsCached_early (h : op.early s = true) : readQuadsCached op s = .fault .quadNotReady :=
  andThen_of_fault (hubAddress_early h)

theorem getPtr_early {b : Bool} {src : ZSource} {z c : Bool} (h : s.early d = true) :
    getPtr b src z c true d s = .fault .quadNotReady :=
  andThen_of_fault (claimX_early h)

theorem setPointer_early {b : Bool} (h : s.early d = true) : setPointer b (.reg d) s = .fault .quadNotReady :=
  andThen_of_fault (readX_early h)

theorem addPointer_early {b : Bool} (h : s.early d = true) : addPointer b (.reg d) s = .fault .quadNotReady :=
  andThen_of_fault (readX_early h)

theorem subPointer_early {b : Bool} (h : s.early d = true) : subPointer b (.reg d) s = .fault .quadNotReady :=
  andThen_of_fault (readX_early h)

theorem setQuadBase_early (h : s.early d = true) : setQuadBase (.reg d) s = .fault .quadNotReady :=
  andThen_of_fault (readX_early h)

theorem getTops_early {z : Bool} (hq : 0 < s.qds) : getTops z d s = .fault .quadNotReady :=
  andThen_of_fault (useQuads_early hq)

theorem exec_settaskD_early (h : s.early d = true) : exec (.settaskD d) s = .fault .quadNotReady :=
  andThen_of_fault (readX_early h)

/-- An operand of JMPTASK that is not ready is a register in its delay. -/
theorem taskOperandValue_of_not_ready {t : TaskOperand} (h : taskOperandReady t s = false) :
    taskOperandValue t s = .fault .quadNotReady := by
  cases t with
  | lit v => cases h
  | reg a => exact readX_early (by simpa [taskOperandReady] using h)

theorem exec_jmptask_early {t m : TaskOperand}
    (h : taskOperandReady t s = false ∨ taskOperandReady m s = false) :
    exec (.jmptask t m) s = .fault .quadNotReady := by
  rw [exec, execJmptask]
  cases ht : taskOperandReady t s with
  | false => exact andThen_of_fault (taskOperandValue_of_not_ready ht)
  | true =>
    rw [ht] at h
    rw [taskOperandValue_of_ready ht, andThen_next]
    exact andThen_of_fault (taskOperandValue_of_not_ready (h.resolve_left nofun))

/-- An operand of JMPTASK that addresses a mapped QUAD in its delay is not ready. -/
theorem not_ready_of_mem {t m : TaskOperand} (ha : a ∈ addressedRegisters (.jmptask t m))
    (he : s.early a = true) :
    taskOperandReady t s = false ∨ taskOperandReady m s = false := by
  cases t <;> cases m <;> simp only [addressedRegisters, List.mem_cons, List.not_mem_nil, or_false] at ha
  · subst ha
    exact .inr (by rw [taskOperandReady, he, Bool.not_true])
  · subst ha
    exact .inl (by rw [taskOperandReady, he, Bool.not_true])
  · rcases ha with rfl | rfl
    · exact .inl (by rw [taskOperandReady, he, Bool.not_true])
    · exact .inr (by rw [taskOperandReady, he, Bool.not_true])

end

/-- An instruction that executes while qds > 0 and uses the QUADs as data, or addresses one, faults (R266). -/
theorem exec_early {i : Instr} {s : State} (hk : ∀ k, i.condField = some k → s.holds k = true)
    (hq : 0 < s.qds)
    (h : takesQuads i = true ∨ ∃ a ∈ addressedRegisters i, s.overlaid a = true) :
    exec i s = .fault .quadNotReady := by
  have hnil {P : Prop} (h : false = true ∨ ∃ a ∈ ([] : List CogAddr), s.overlaid a = true) : P := by
    simp at h
  have hone {d : CogAddr} (h : false = true ∨ ∃ a ∈ [d], s.overlaid a = true) : s.early d = true :=
    early_of_overlaid hq (by simpa using h)
  have htwo {d x : CogAddr} (h : false = true ∨ ∃ a ∈ [d, x], s.overlaid a = true) :
      s.early d = true ∨ s.early x = true := by
    have h : s.overlaid d = true ∨ s.overlaid x = true := by simpa using h
    exact h.imp (early_of_overlaid hq) (early_of_overlaid hq)
  cases i with
  | wrbyteDS k d x => exact whenHolds_fault (hk k rfl) (writeUnit_early (htwo h))
  | wrwordDS k d x => exact whenHolds_fault (hk k rfl) (writeUnit_early (htwo h))
  | wrlongDS k d x => exact whenHolds_fault (hk k rfl) (writeUnit_early (htwo h))
  | wrbyteDPtr k d e => exact whenHolds_fault (hk k rfl) (writeUnit_early (.inl (hone h)))
  | wrwordDPtr k d e => exact whenHolds_fault (hk k rfl) (writeUnit_early (.inl (hone h)))
  | wrlongDPtr k d e => exact whenHolds_fault (hk k rfl) (writeUnit_early (.inl (hone h)))
  | rdbyteDS z k d x => exact whenHolds_fault (hk k rfl) (readUnit_early (htwo h))
  | rdwordDS z k d x => exact whenHolds_fault (hk k rfl) (readUnit_early (htwo h))
  | rdlongDS z k d x => exact whenHolds_fault (hk k rfl) (readUnit_early (htwo h))
  | rdbyteDPtr z k d e => exact whenHolds_fault (hk k rfl) (readUnit_early (.inl (hone h)))
  | rdwordDPtr z k d e => exact whenHolds_fault (hk k rfl) (readUnit_early (.inl (hone h)))
  | rdlongDPtr z k d e => exact whenHolds_fault (hk k rfl) (readUnit_early (.inl (hone h)))
  | rdbytecDS z k d x => exact whenHolds_fault (hk k rfl) (readCachedUnit_early (hone h))
  | rdwordcDS z k d x => exact whenHolds_fault (hk k rfl) (readCachedUnit_early (hone h))
  | rdlongcDS z k d x => exact whenHolds_fault (hk k rfl) (readCachedUnit_early (hone h))
  | wrquadD k d => exact whenHolds_fault (hk k rfl) (writeQuad_early hq)
  | wrquadPtr k e => exact whenHolds_fault (hk k rfl) (writeQuad_early hq)
  | rdquadD k d => exact whenHolds_fault (hk k rfl) (readQuads_early (hone h))
  | rdquadcD k d => exact whenHolds_fault (hk k rfl) (readQuadsCached_early (hone h))
  | getptraD z c r k d =>
    cases r
    · exact hnil h
    · exact whenHolds_fault (hk k rfl) (getPtr_early (hone h))
  | getptrbD z c r k d =>
    cases r
    · exact hnil h
    · exact whenHolds_fault (hk k rfl) (getPtr_early (hone h))
  | setptraD k d => exact whenHolds_fault (hk k rfl) (setPointer_early (hone h))
  | setptrbD k d => exact whenHolds_fault (hk k rfl) (setPointer_early (hone h))
  | addptraD k d => exact whenHolds_fault (hk k rfl) (addPointer_early (hone h))
  | addptrbD k d => exact whenHolds_fault (hk k rfl) (addPointer_early (hone h))
  | subptraD k d => exact whenHolds_fault (hk k rfl) (subPointer_early (hone h))
  | subptrbD k d => exact whenHolds_fault (hk k rfl) (subPointer_early (hone h))
  | gettopsD z k d => exact whenHolds_fault (hk k rfl) (getTops_early hq)
  | setquadD k d => exact whenHolds_fault (hk k rfl) (setQuadBase_early (hone h))
  | settaskD d => exact exec_settaskD_early (hone h)
  | jmptask t m =>
    obtain ⟨a, ha, ho⟩ := h.resolve_left nofun
    exact exec_jmptask_early (not_ready_of_mem ha (early_of_overlaid hq ho))
  | _ => exact hnil h

/-- Settles O44: the readiness rule is the first stop an instruction meets that uses a QUAD in its delay. -/
theorem earlyQuadUseFaults : Obligations.EarlyQuadUseFaults := by
  refine ⟨fun i s hk hq h => exec_early hk hq h, fun sz z k d src e s hk hq hw => ⟨fun hh => ?_, fun hh => ?_,
    fun hh => ?_, fun hh => ?_⟩⟩
  · rw [exec_cachedDS]
    refine whenHolds_fault hk ?_
    cases hsrc : s.early src with
    | true => exact readCachedUnit_early hsrc
    | false =>
      have ha := hubAddress_reg sz.bytes hsrc
      exact readCachedUnit_fault ha (cacheLookup_early ha hh hw hq)
  · rw [exec_cachedPtr]
    exact whenHolds_fault hk (readCachedUnit_fault hubAddress_ptr (cacheLookup_early hubAddress_ptr hh hw hq))
  · refine whenHolds_fault hk ?_
    cases hd : s.early d with
    | true => exact readQuadsCached_early hd
    | false =>
      have ha := hubAddress_reg quadScale hd
      exact (readQuadsCached_eq_cacheLookup ha).trans (cacheLookup_early ha hh hw hq)
  · exact whenHolds_fault hk
      ((readQuadsCached_eq_cacheLookup hubAddress_ptr).trans (cacheLookup_early hubAddress_ptr hh hw hq))

end Sys2Proof.Machine

namespace Sys2Proof.Machine

/-! ## Hidden QUADs -/

/-- What `f` answers from a state with hidden QUADs, it answers from the same state with QBASE = q, but for
QBASE. -/
def CarriesBase (q : BitVec 9) (f : State → Result State) : Prop :=
  ∀ s t, s.quadsMapped = false → f s = .next t → f (s.setQbase q) = .next (t.setQbase q)

section
variable {q : BitVec 9} {s t u : State} {a d : CogAddr}

theorem quadsMapped_setQbase (hq : q.extractLsb' 0 2 ≠ 0#2) (s : State) :
    (s.setQbase q).quadsMapped = false :=
  beq_false_of_ne hq

theorem word_setQbase (hq : q.extractLsb' 0 2 ≠ 0#2) (hs : s.quadsMapped = false) (a : CogAddr) :
    (s.setQbase q).word a = s.word a := by
  rw [word_of_not_overlaid (overlaid_of_hidden hs a),
    word_of_not_overlaid (overlaid_of_hidden (quadsMapped_setQbase hq s) a)]
  rfl

theorem x_setQbase (hq : q.extractLsb' 0 2 ≠ 0#2) (hs : s.quadsMapped = false) (a : CogAddr) :
    (s.setQbase q).x a = s.x a :=
  congrArg wordValue (word_setQbase hq hs a)

theorem early_of_hidden (hs : s.quadsMapped = false) (a : CogAddr) : s.early a = false := by
  rw [State.early, overlaid_of_hidden hs, Bool.false_and]

theorem setX_setQbase (hq : q.extractLsb' 0 2 ≠ 0#2) (hs : s.quadsMapped = false) (d : CogAddr) (v : Long) :
    (s.setQbase q).setX d v = (s.setX d v).setQbase q := by
  rw [setX_of_not_overlaid (overlaid_of_hidden hs d),
    setX_of_not_overlaid (overlaid_of_hidden (quadsMapped_setQbase hq s) d)]
  rfl

theorem writeZ_setQbase (s : State) (z : Bool) (src : ZSource) (v : Long) :
    (s.setQbase q).writeZ z src v = (s.writeZ z src v).setQbase q := by
  cases z <;> rfl

theorem drawC_setQbase (s : State) (c : Bool) : (s.setQbase q).drawC c = (s.drawC c).setQbase q := by
  cases c <;> rfl

theorem setPtr_setQbase (s : State) (b : Bool) (v : HubAddr) :
    (s.setQbase q).setPtr b v = (s.setPtr b v).setQbase q := by
  cases b <;> rfl

theorem ptrUpdate_setQbase (s : State) (e : PtrExpr) (n : Nat) :
    ptrUpdate e n (s.setQbase q) = (ptrUpdate e n s).setQbase q := by
  cases hu : e.update
  · simp [ptrUpdate, hu]
  · simp only [ptrUpdate, hu, if_true]
    exact setPtr_setQbase s _ _

theorem result_setQbase (hq : q.extractLsb' 0 2 ≠ 0#2) (hs : s.quadsMapped = false) (z : Bool) (src : ZSource)
    (d : CogAddr) (v : Long) :
    ((s.setQbase q).setX d v).writeZ z src v = ((s.setX d v).writeZ z src v).setQbase q := by
  rw [setX_setQbase hq hs, writeZ_setQbase]

theorem readX_setQbase (hq : q.extractLsb' 0 2 ≠ 0#2) (hs : s.quadsMapped = false) (a : CogAddr) :
    readX a (s.setQbase q) = readX a s := by
  rw [readX_eq_next.2 ⟨early_of_hidden hs a, rfl⟩,
    readX_eq_next.2 ⟨early_of_hidden (quadsMapped_setQbase hq s) a, x_setQbase hq hs a⟩]

theorem operandValue_setQbase (hq : q.extractLsb' 0 2 ≠ 0#2) (hs : s.quadsMapped = false)
    (op : ValueOperand) :
    operandValue op (s.setQbase q) = operandValue op s := by
  cases op with
  | reg a => exact readX_setQbase hq hs a
  | lit n => rfl

theorem taskOperandValue_setQbase (hq : q.extractLsb' 0 2 ≠ 0#2) (hs : s.quadsMapped = false)
    (op : TaskOperand) :
    taskOperandValue op (s.setQbase q) = taskOperandValue op s := by
  cases op with
  | reg a => exact readX_setQbase hq hs a
  | lit v => rfl

/-- The address of an operand, and the state beside it. -/
theorem hubAddress_setQbase (hq : q.extractLsb' 0 2 ≠ 0#2) (hs : s.quadsMapped = false) {op : HubOperand}
    {n : Nat}
    {p : HubAddr × State} (h : hubAddress op n s = .next p) :
    hubAddress op n (s.setQbase q) = .next (p.1, p.2.setQbase q) ∧ p.2.quadsMapped = false := by
  refine ⟨?_, (hubAddress_keeps State.quadsMapped (fun u b v => by cases b <;> rfl) h).trans hs⟩
  cases op with
  | reg a =>
    obtain ⟨-, rfl⟩ := hubAddress_reg_eq_next.1 h
    refine hubAddress_reg_eq_next.2 ⟨early_of_hidden (quadsMapped_setQbase hq s) a, ?_⟩
    rw [x_setQbase hq hs]
  | ptr e =>
    cases h
    refine hubAddress_ptr.trans ?_
    rw [ptrUpdate_setQbase]
    rfl

theorem store_carriesBase (n : Nat) (a : HubAddr) (bs : List Byte) : CarriesBase q (store n a bs) := by
  intro s t _ h
  obtain ⟨hr, rfl⟩ := store_eq_next.1 h
  exact store_eq_next.2 ⟨hr, rfl⟩

theorem cacheLookup_carriesBase (a : HubAddr) : CarriesBase q (cacheLookup a) := by
  intro s t _ h
  rcases cacheLookup_eq_next.1 h with ⟨hh, hw, hz, rfl⟩ | ⟨hh, r, hr, rfl⟩
  · exact cacheLookup_eq_next.2 (.inl ⟨hh, hw, hz, rfl⟩)
  · exact cacheLookup_eq_next.2 (.inr ⟨hh, r, hr, rfl⟩)

theorem explicitRdquad_carriesBase (a : HubAddr) : CarriesBase q (explicitRdquad a) := by
  intro s t _ h
  obtain ⟨r, hr, rfl⟩ := explicitRdquad_eq_next.1 h
  refine explicitRdquad_eq_next.2 ⟨r, hr, ?_⟩
  rw [State.setQbase_params]
  split <;> rfl

end

/-! ### The shared parts of the instructions -/

section
variable {q : BitVec 9} (hq : q.extractLsb' 0 2 ≠ 0#2)
include hq

theorem writeUnit_carriesBase (sz : DataSize) (d : CogAddr) (op : HubOperand) :
    CarriesBase q (writeUnit sz d op) := by
  intro s t hs h
  obtain ⟨hd, p, hp, ht⟩ := writeUnit_eq_next.1 h
  obtain ⟨hp', hh⟩ := hubAddress_setQbase hq hs hp
  refine writeUnit_eq_next.2 ⟨early_of_hidden (quadsMapped_setQbase hq s) d, _, hp', ?_⟩
  rw [x_setQbase hq hs]
  exact store_carriesBase _ _ _ _ _ hh ht

theorem readUnit_carriesBase (sz : DataSize) (src : ZSource) (z : Bool) (d : CogAddr) (op : HubOperand) :
    CarriesBase q (readUnit sz src z d op) := by
  intro s t hs h
  obtain ⟨hd, p, v, hp, hv, rfl⟩ := readUnit_eq_next.1 h
  obtain ⟨hp', hh⟩ := hubAddress_setQbase hq hs hp
  exact readUnit_eq_next.2 ⟨early_of_hidden (quadsMapped_setQbase hq s) d, _, v, hp', hv,
    result_setQbase hq hh z src d v⟩

theorem readCachedUnit_carriesBase (sz : DataSize) (src : ZSource) (z : Bool) (d : CogAddr)
    (op : HubOperand) :
    CarriesBase q (readCachedUnit sz src z d op) := by
  intro s t hs h
  obtain ⟨p, u, hp, hu, rfl⟩ := readCachedUnit_eq_next.1 h
  obtain ⟨hp', hh⟩ := hubAddress_setQbase hq hs hp
  have hhu : u.quadsMapped = false := (cacheLookup_keeps State.quadsMapped (fun _ _ _ _ => rfl) hu).trans hh
  exact readCachedUnit_eq_next.2 ⟨_, u.setQbase q, hp', cacheLookup_carriesBase _ _ _ hh hu,
    result_setQbase hq hhu z src d _⟩

theorem writeQuad_carriesBase (op : HubOperand) : CarriesBase q (writeQuad op) := by
  intro s t hs h
  obtain ⟨hz, p, hp, ht⟩ := writeQuad_eq_next.1 h
  obtain ⟨hp', hh⟩ := hubAddress_setQbase hq hs hp
  exact writeQuad_eq_next.2 ⟨hz, _, hp', store_carriesBase _ _ _ _ _ hh ht⟩

theorem readQuads_carriesBase (op : HubOperand) : CarriesBase q (readQuads op) := by
  intro s t hs h
  obtain ⟨p, hp, ht⟩ := readQuads_eq_next.1 h
  obtain ⟨hp', hh⟩ := hubAddress_setQbase hq hs hp
  exact readQuads_eq_next.2 ⟨_, hp', explicitRdquad_carriesBase _ _ _ hh ht⟩

theorem readQuadsCached_carriesBase (op : HubOperand) : CarriesBase q (readQuadsCached op) := by
  intro s t hs h
  obtain ⟨p, hp, ht⟩ := readQuadsCached_eq_next.1 h
  obtain ⟨hp', hh⟩ := hubAddress_setQbase hq hs hp
  exact readQuadsCached_eq_next.2 ⟨_, hp', cacheLookup_carriesBase _ _ _ hh ht⟩

theorem getPtr_carriesBase (b : Bool) (src : ZSource) (z c r : Bool) (d : CogAddr) :
    CarriesBase q (getPtr b src z c r d) := by
  intro s t hs h
  obtain ⟨-, rfl⟩ := getPtr_eq_next.1 h
  refine getPtr_eq_next.2 ⟨fun _ => early_of_hidden (quadsMapped_setQbase hq s) d, ?_⟩
  rw [← drawC_setQbase, ← writeZ_setQbase]
  cases r
  · rfl
  · exact congrArg (fun u => (State.writeZ z src ((s.ptr b).setWidth 32) u).drawC c)
      (setX_setQbase hq hs d ((s.ptr b).setWidth 32))

theorem setPointer_carriesBase (b : Bool) (op : ValueOperand) : CarriesBase q (setPointer b op) := by
  intro s t hs h
  obtain ⟨v, hv, rfl⟩ := setPointer_eq_next.1 h
  exact setPointer_eq_next.2 ⟨v, (operandValue_setQbase hq hs op).trans hv, setPtr_setQbase s _ _⟩

theorem addPointer_carriesBase (b : Bool) (op : ValueOperand) : CarriesBase q (addPointer b op) := by
  intro s t hs h
  obtain ⟨v, hv, rfl⟩ := addPointer_eq_next.1 h
  exact addPointer_eq_next.2 ⟨v, (operandValue_setQbase hq hs op).trans hv, setPtr_setQbase s _ _⟩

theorem subPointer_carriesBase (b : Bool) (op : ValueOperand) : CarriesBase q (subPointer b op) := by
  intro s t hs h
  obtain ⟨v, hv, rfl⟩ := subPointer_eq_next.1 h
  exact subPointer_eq_next.2 ⟨v, (operandValue_setQbase hq hs op).trans hv, setPtr_setQbase s _ _⟩

theorem getTops_carriesBase (z : Bool) (d : CogAddr) : CarriesBase q (getTops z d) := by
  intro s t hs h
  obtain ⟨hz, rfl⟩ := getTops_eq_next.1 h
  exact getTops_eq_next.2 ⟨hz, result_setQbase hq hs z .gettops d s.tops⟩

omit hq in
theorem whenHolds_carriesBase {f : State → Result State} (k : Cond) (hf : CarriesBase q f) :
    CarriesBase q (fun s => whenHolds k s f) := by
  intro s t hs h
  rcases whenHolds_eq_next.1 h with ⟨hk, h⟩ | ⟨hk, rfl⟩
  · exact whenHolds_eq_next.2 (.inl ⟨hk, hf s t hs h⟩)
  · exact whenHolds_eq_next.2 (.inr ⟨hk, rfl⟩)

/-- SETQUAD overwrites the base, so what it answers does not depend on the base before. -/
theorem setQuadBase_setQbase {op : ValueOperand} {k : Cond} {s t : State} (hs : s.quadsMapped = false)
    (h : whenHolds k s (setQuadBase op) = .next t) :
    ∃ t', whenHolds k (s.setQbase q) (setQuadBase op) = .next t' ∧ (t' = t ∨ t' = t.setQbase q) := by
  rcases whenHolds_eq_next.1 h with ⟨hk, h⟩ | ⟨hk, rfl⟩
  · obtain ⟨v, hv, rfl⟩ := setQuadBase_eq_next.1 h
    exact ⟨_, whenHolds_eq_next.2 (.inl ⟨hk, setQuadBase_eq_next.2
      ⟨v, (operandValue_setQbase hq hs op).trans hv, rfl⟩⟩), .inl rfl⟩
  · exact ⟨_, whenHolds_eq_next.2 (.inr ⟨hk, rfl⟩), .inr rfl⟩

/-- From a state with hidden QUADs an instruction answers the same under another hidden base, but for the base
itself, and SETQUAD answers the very same. -/
theorem exec_setQbase {i : Instr} {s t : State} (hs : s.quadsMapped = false) (h : exec i s = .next t) :
    ∃ t', exec i (s.setQbase q) = .next t' ∧ (t' = t ∨ t' = t.setQbase q) := by
  have carried {k : Cond} {f : State → Result State} (hf : CarriesBase q f) (h : whenHolds k s f = .next t) :
      ∃ t', whenHolds k (s.setQbase q) f = .next t' ∧ (t' = t ∨ t' = t.setQbase q) :=
    ⟨_, whenHolds_carriesBase k hf s t hs h, .inr rfl⟩
  cases i with
  | wrbyteDS => exact carried (writeUnit_carriesBase hq _ _ _) h
  | wrbyteDPtr => exact carried (writeUnit_carriesBase hq _ _ _) h
  | rdbyteDS => exact carried (readUnit_carriesBase hq _ _ _ _ _) h
  | rdbyteDPtr => exact carried (readUnit_carriesBase hq _ _ _ _ _) h
  | rdbytecDS => exact carried (readCachedUnit_carriesBase hq _ _ _ _ _) h
  | rdbytecDPtr => exact carried (readCachedUnit_carriesBase hq _ _ _ _ _) h
  | wrwordDS => exact carried (writeUnit_carriesBase hq _ _ _) h
  | wrwordDPtr => exact carried (writeUnit_carriesBase hq _ _ _) h
  | rdwordDS => exact carried (readUnit_carriesBase hq _ _ _ _ _) h
  | rdwordDPtr => exact carried (readUnit_carriesBase hq _ _ _ _ _) h
  | rdwordcDS => exact carried (readCachedUnit_carriesBase hq _ _ _ _ _) h
  | rdwordcDPtr => exact carried (readCachedUnit_carriesBase hq _ _ _ _ _) h
  | wrlongDS => exact carried (writeUnit_carriesBase hq _ _ _) h
  | wrlongDPtr => exact carried (writeUnit_carriesBase hq _ _ _) h
  | rdlongDS => exact carried (readUnit_carriesBase hq _ _ _ _ _) h
  | rdlongDPtr => exact carried (readUnit_carriesBase hq _ _ _ _ _) h
  | rdlongcDS => exact carried (readCachedUnit_carriesBase hq _ _ _ _ _) h
  | rdlongcDPtr => exact carried (readCachedUnit_carriesBase hq _ _ _ _ _) h
  | wrquadD => exact carried (writeQuad_carriesBase hq _) h
  | wrquadPtr => exact carried (writeQuad_carriesBase hq _) h
  | rdquadD => exact carried (readQuads_carriesBase hq _) h
  | rdquadPtr => exact carried (readQuads_carriesBase hq _) h
  | rdquadcD => exact carried (readQuadsCached_carriesBase hq _) h
  | rdquadcPtr => exact carried (readQuadsCached_carriesBase hq _) h
  | getptraD => exact carried (getPtr_carriesBase hq _ _ _ _ _ _) h
  | getptrbD => exact carried (getPtr_carriesBase hq _ _ _ _ _ _) h
  | setptraD => exact carried (setPointer_carriesBase hq _ _) h
  | setptraN => exact carried (setPointer_carriesBase hq _ _) h
  | setptrbD => exact carried (setPointer_carriesBase hq _ _) h
  | setptrbN => exact carried (setPointer_carriesBase hq _ _) h
  | addptraD => exact carried (addPointer_carriesBase hq _ _) h
  | addptraN => exact carried (addPointer_carriesBase hq _ _) h
  | addptrbD => exact carried (addPointer_carriesBase hq _ _) h
  | addptrbN => exact carried (addPointer_carriesBase hq _ _) h
  | subptraD => exact carried (subPointer_carriesBase hq _ _) h
  | subptraN => exact carried (subPointer_carriesBase hq _ _) h
  | subptrbD => exact carried (subPointer_carriesBase hq _ _) h
  | subptrbN => exact carried (subPointer_carriesBase hq _ _) h
  | cachex k =>
    have hf : CarriesBase q fun s => .next s.invalidate := fun s t _ h => Host.Outcome.next.inj h ▸ rfl
    exact carried hf h
  | gettopsD => exact carried (getTops_carriesBase hq _ _) h
  | setquadD k d => exact setQuadBase_setQbase hq hs h
  | setquadN k n => exact setQuadBase_setQbase hq hs h
  | settaskN n =>
    obtain rfl := Host.Outcome.next.inj h
    exact ⟨_, rfl, .inr rfl⟩
  | settaskD d =>
    obtain ⟨-, rfl⟩ := exec_settaskD_eq_next.1 h
    refine ⟨_, exec_settaskD_eq_next.2 ⟨early_of_hidden (quadsMapped_setQbase hq s) d, rfl⟩, .inr ?_⟩
    rw [x_setQbase hq hs]
    rfl
  | jmptask a m =>
    obtain ⟨va, ha, h⟩ := andThen_eq_next.1 h
    obtain ⟨vm, hm, h⟩ := andThen_eq_next.1 h
    obtain rfl := Host.Outcome.next.inj h
    refine ⟨_, andThen_eq_next.2 ⟨va, (taskOperandValue_setQbase hq hs a).trans ha,
      andThen_eq_next.2 ⟨vm, (taskOperandValue_setQbase hq hs m).trans hm, rfl⟩⟩, .inr rfl⟩
  | jmpA a =>
    obtain rfl := Host.Outcome.next.inj h
    exact ⟨_, rfl, .inr rfl⟩
  | notpN n =>
    rw [exec, execNotpN] at h
    split at h
    · obtain rfl := Host.Outcome.next.inj h
      exact ⟨_, if_pos ‹_›, .inr rfl⟩
    · cases h

omit hq in
theorem writtenTooRecently_congr {s t : State} {a : CogAddr} (hl : t.lastWrite a = s.lastWrite a)
    (hp : t.params = s.params) (hs : t.steps = s.steps) :
    t.writtenTooRecently a = s.writtenTooRecently a := by
  simp only [State.writtenTooRecently, hl, hp, hs]

/-- The fetch from hidden QUADs does not depend on the base (R72, R266). -/
theorem fetch_setQbase {s : State} {i : Instr} (hs : s.quadsMapped = false) (h : fetch s = .next i) :
    fetch (s.setQbase q) = .next i := by
  obtain ⟨w, hw, hi⟩ := fetch_eq_next.1 h
  obtain ⟨-, hold, rfl⟩ := fetchWord_eq_next.1 hw
  have ho := overlaid_of_hidden hs s.pc
  have ho' := overlaid_of_hidden (quadsMapped_setQbase hq s) s.pc
  have hlast : (s.setQbase q).lastWrite s.pc = s.lastWrite s.pc :=
    (lastWrite_of_not_overlaid ho').trans (lastWrite_of_not_overlaid ho).symm
  refine fetch_eq_next.2 ⟨_, fetchWord_eq_next.2 ⟨fun h => ?_, ?_, word_setQbase hq hs s.pc⟩, hi⟩
  · cases ho'.symm.trans h
  · exact (writtenTooRecently_congr hlast rfl rfl).trans hold

end

theorem endSlot_setQbase {q : BitVec 9} (i : Instr) (s : State) :
    endSlot i (s.setQbase q) = (endSlot i s).setQbase q := by
  rw [endSlot, endSlot, State.setQbase_params]
  split <;> rfl

/-- Settles O29: hidden QUADs reach no register, so each part of the step answers the same but for QBASE. -/
theorem hiddenBasesAreEquivalent : Obligations.HiddenBasesAreEquivalent := by
  intro s t q q' hq hq' h
  obtain ⟨s₁, i, u, hb, hf, hx, rfl⟩ := (step_eq_next (s := s.setQbase q)).1 h
  have hhidden : s₁.quadsMapped = false := by
    rw [beginSlot_eq_of_next hb]
    exact quadsMapped_setQbase hq s
  have hb' : beginSlot (s.setQbase q') = .next (s₁.setQbase q') := by
    obtain ⟨m, hm, rfl⟩ := beginSlot_eq_next.1 hb
    exact beginSlot_eq_next.2 ⟨m, hm, rfl⟩
  obtain ⟨u', hx', hu'⟩ := exec_setQbase (s := s₁.advance) hq' hhidden hx
  refine ⟨endSlot i u', step_eq_next.2 ⟨_, i, u', hb', fetch_setQbase hq' hhidden hf, hx', rfl⟩, ?_⟩
  rcases hu' with rfl | rfl
  · exact .inl rfl
  · exact .inr (endSlot_setQbase i u)

end Sys2Proof.Machine
end
